-- ==== Sys2Proof/Word.lean ====
section
/-! DEFINITION. The words of the 680's messages: bytes and the multi-byte fields built from them
(spec 0.6 "Messages", R196). Plain abbreviations, so that the BitVec lemmas apply. -/

namespace Sys2Proof

/-- One byte of a frame on the serial line (R181). -/
abbrev Byte := BitVec 8

/-- A two-byte field of a message (R196), and the width of the sync sequence (R46). -/
abbrev Word16 := BitVec 16

/-- A three-byte field of a message: an engineering value (R196). -/
abbrev Word24 := BitVec 24

/-- A four-byte field of a message: a position or a count (R196). -/
abbrev Word32 := BitVec 32

end Sys2Proof
end

