-- ==== Sys2Proof/Syntax.lean ====
section
/-! DEFINITION. The commands of the 680: one constructor per row of spec/opcode_table.json. A command is
either an event on the machine side (a line change, a timer expiry, a frame on the head link), an event of
the serial line, or a host request taken to its owner. The operands of a request are the fields of its body
in the widths of Table 11-11, so that every operand is a request that can be sent. -/

namespace Sys2Proof

/-- What the line hands to the receive assembler: a byte, or a byte whose stop bit is low (R181). -/
inductive RxInput where
  | byte (b : Byte)
  | framingFault
deriving DecidableEq, Repr

/-- What brought a cold reset: power-on or RESETn (0.6 "Resets", R191). -/
inductive ColdCause where
  | power
  | pin
deriving DecidableEq, Repr

/-- The levels of the input pins of Table 1-3 as a cold reset ends; true is high (asserted). -/
structure ResetPins where
  encA : Bool
  encB : Bool
  encI : Bool
  homeSw : Bool
  limitLo : Bool
  limitHi : Bool
  drvReady : Bool
  breakIn : Bool
  alarmSense : Bool
  baud1 : Bool
  baud0 : Bool
deriving DecidableEq, Repr

/-- The two hard limit lines of Table 1-3. -/
inductive LimitLine where
  | lo
  | hi
deriving DecidableEq, Repr

/-- The body of SET FRAME (Table 11-11, 46 bytes). -/
structure FrameBody where
  travelMin : Word32
  travelMax : Word32
  homePosition : Word32
  indexTolerance : Word16
  parkPosition : Word32
  stdPosition : Word32
  encDir : Byte
  vFull : Word16
  scanSpeed : Word16
  moveSpeed : Word16
  homingSpeed : Word16
  creepSpeed : Word16
  accelStep : Word16
  arriveTolerance : Byte
  overtravel : Word16
  reverseDwell : Word16
  stallSpeed : Word16
  stallTime : Word16
  moveTimeout : Word16
deriving DecidableEq, Repr

/-- The body of SET SLOT (Table 11-11, 9 bytes). -/
structure SlotBody where
  slot : Byte
  enabled : Byte
  kind : Byte
  windowStart : Word16
  windowLength : Word16
  lag : Byte
  errorLimit : Byte
deriving DecidableEq, Repr

/-- One breakpoint of a SET CURVE body: x in 2 bytes, y in 3. -/
structure Breakpoint where
  x : Word16
  y : Word24
deriving DecidableEq, Repr

/-- The body of SET CURVE (Table 11-11, 2 + 5n bytes); the count byte n is the length of the list. -/
structure CurveBody where
  slot : Byte
  points : List Breakpoint
deriving DecidableEq, Repr

/-- The per-slot part of a SET STD body. -/
structure StdSlotBody where
  minSpan : Word16
  driftLimit : Word16
deriving DecidableEq, Repr

/-- The body of SET STD (Table 11-11, 32 bytes). -/
structure StdBody where
  intervalScans : Word16
  darkSettle : Word16
  nDark : Word16
  refSettle : Word16
  nRef : Word16
  stdTimeout : Word16
  maxAge : Word32
  slot0 : StdSlotBody
  slot1 : StdSlotBody
  slot2 : StdSlotBody
  slot3 : StdSlotBody
deriving DecidableEq, Repr

/-- The body of SET LAYOUT (Table 11-11, 9 bytes). -/
structure LayoutBody where
  mode : Byte
  boxes : Word16
  origin : Word32
  width : Word16
deriving DecidableEq, Repr

/-- The body of SET ZONE (Table 11-11, 12 bytes). -/
structure ZoneBody where
  zone : Byte
  enabled : Byte
  low : Word32
  high : Word32
  slots : Byte
  presenceIgnore : Byte
deriving DecidableEq, Repr

/-- One channel's part of a SET FILTER body (5 bytes). -/
structure ChannelFilterBody where
  k : Byte
  minCount : Byte
  minValid : Word16
  staleLimit : Byte
deriving DecidableEq, Repr

/-- The body of SET FILTER (Table 11-11, 25 bytes), channels 0 to 4. -/
structure FilterBody where
  ch0 : ChannelFilterBody
  ch1 : ChannelFilterBody
  ch2 : ChannelFilterBody
  ch3 : ChannelFilterBody
  ch4 : ChannelFilterBody
deriving DecidableEq, Repr

/-- The body of SET SHEET (Table 11-11, 22 bytes). -/
structure SheetBody where
  presenceThreshold : Word16
  absenceThreshold : Word16
  edgeRun : Word16
  edgeShiftLimit : Word32
  interiorMargin : Word16
  holeRun : Word16
  breakRun : Word16
  breakDebounce : Word16
  breakHoldoff : Word16
  autoresume : Byte
  resumeLimit : Byte
deriving DecidableEq, Repr

/-- The body of SET WATCH (Table 11-11, 6 bytes). -/
structure WatchBody where
  watch : Byte
  enabled : Byte
  slot : Byte
  item : Byte
  low : Byte
  high : Byte
deriving DecidableEq, Repr

/-- The commands: one constructor per row of spec/opcode_table.json, in the table's order. A request
carries the tag the host chose for it (Table 11-3). -/
inductive Instr where
  /-- COLD_RESET (R16): power-on or RESETn, with the pin levels as the reset ends. -/
  | coldReset (cause : ColdCause) (pins : ResetPins)
  /-- RESTART (R194): the warm reset. -/
  | restart (tag : Byte)
  /-- RECEIVE_BYTE (R182). -/
  | receiveByte (input : RxInput)
  /-- DISPATCH_REQUEST (R186). -/
  | dispatchRequest
  /-- TRANSMIT_FRAME (R188). -/
  | transmitFrame
  /-- FRAME_SENT (R187). -/
  | frameSent
  /-- IDENTIFY (R191). -/
  | identify (tag : Byte)
  /-- STATUS (R192). -/
  | status (tag : Byte)
  /-- SET_NOTICES (R190). -/
  | setNotices (tag : Byte) (mask : Byte)
  /-- GET_CONFIG (R193). -/
  | getConfig (tag : Byte) (group : Byte)
  /-- HOME (R35). -/
  | home (tag : Byte)
  /-- START (R37). -/
  | start (tag : Byte)
  /-- STOP (R38). -/
  | stop (tag : Byte)
  /-- POINT (R159). -/
  | point (tag : Byte) (position : Word32) (blockLength : Word16)
  /-- STANDARDIZE (R94). -/
  | standardize (tag : Byte) (unconditional : Byte)
  /-- SET_FRAME (R9). -/
  | setFrame (tag : Byte) (body : FrameBody)
  /-- SET_LINK (R47). -/
  | setLink (tag : Byte) (samplePeriod : Word16)
  /-- SET_SLOT (R48). -/
  | setSlot (tag : Byte) (body : SlotBody)
  /-- SET_CURVE (R71). -/
  | setCurve (tag : Byte) (body : CurveBody)
  /-- SET_STD (R83). -/
  | setStd (tag : Byte) (body : StdBody)
  /-- SET_LAYOUT (R103). -/
  | setLayout (tag : Byte) (body : LayoutBody)
  /-- SET_ZONE (R106). -/
  | setZone (tag : Byte) (body : ZoneBody)
  /-- SET_FILTER (R130). -/
  | setFilter (tag : Byte) (body : FilterBody)
  /-- SET_SHEET (R143). -/
  | setSheet (tag : Byte) (body : SheetBody)
  /-- SET_WATCH (R61). -/
  | setWatch (tag : Byte) (body : WatchBody)
  /-- SET_ALARM (R171). -/
  | setAlarm (tag : Byte) (source : Byte) (reactions : Byte)
  /-- READ_PROFILE (R140). -/
  | readProfile (tag : Byte) (channel : Byte) (form : Byte) (firstBox : Word16) (count : Word16)
  /-- READ_HISTORY (R141). -/
  | readHistory (tag : Byte) (first : Word32) (count : Byte)
  /-- READ_POINT (R165). -/
  | readPoint (tag : Byte) (first : Word32) (count : Byte)
  /-- READ_HOUSEKEEPING (R64). -/
  | readHousekeeping (tag : Byte) (first : Byte) (count : Byte)
  /-- READ_STD (R98). -/
  | readStd (tag : Byte)
  /-- READ_EDGES (R157). -/
  | readEdges (tag : Byte)
  /-- READ_ALARMS (R179). -/
  | readAlarms (tag : Byte)
  /-- ACK (R176); source 255 is ALL. -/
  | ack (tag : Byte) (source : Byte)
  /-- DRILL (R177). -/
  | drill (tag : Byte) (source : Byte)
  /-- ENCODER_TRANSITION (R1): the newly sampled levels of ENC_A and ENC_B. -/
  | encoderTransition (a b : Bool)
  /-- ILLEGAL_TRANSITION (R2): both lines change at once. -/
  | illegalTransition
  /-- INDEX_PASS (R6): the rise of ENC_I. -/
  | indexPass
  /-- MOTION_TICK (R19): the 1 ms tick, with the level of HOME_SW sampled at it (R3). -/
  | motionTick (homeSw : Bool)
  /-- REVERSE_DWELL_EXPIRY (R28). -/
  | reverseDwellExpiry
  /-- STALL_TIMEOUT (R40). -/
  | stallTimeout
  /-- MOVE_TIMEOUT (R42). -/
  | moveTimeout
  /-- DRV_READY_CHANGE (R41): the new level of DRV_READY. -/
  | drvReadyChange (level : Bool)
  /-- DRIVE_READY_WATCH_EXPIRY (R41). -/
  | driveReadyWatchExpiry
  /-- LIMIT_ASSERT (R39): the line that is asserted. -/
  | limitAssert (line : LimitLine)
  /-- LIMIT_RELEASE (R39): the line that is deasserted. -/
  | limitRelease (line : LimitLine)
  /-- SYNC (R46). -/
  | sync
  /-- FRAME_RECEIVED (R52): the 25 bits after the start bit, first bit sent most significant. -/
  | frameReceived (bits : BitVec 25)
  /-- STD_PHASE_TIMER_EXPIRY (R85). -/
  | stdPhaseTimerExpiry
  /-- STD_TIMEOUT (R87). -/
  | stdTimeout
  /-- UPTIME_SECOND (R191). -/
  | uptimeSecond
  /-- BREAK_IN_CHANGE (R154): the new level of BREAK_IN. -/
  | breakInChange (level : Bool)
  /-- BREAK_DEBOUNCE_EXPIRY (R154). -/
  | breakDebounceExpiry
  /-- HOLDOFF_EXPIRY (R155). -/
  | holdoffExpiry
  /-- ALARM_SENSE_CHANGE (R175): the new level of ALARM_SENSE. -/
  | alarmSenseChange (level : Bool)
  /-- LINE_READBACK_EXPIRY (R175). -/
  | lineReadbackExpiry
  /-- START_BIT (R50): a fall of HL_RET at a time in ns after the sync, and whether the line is still low
  0.5 µs later. -/
  | startBit (timeNs : Nat) (stillLow : Bool)
  /-- INDEX_LINE_FALL (R6): the fall of ENC_I. -/
  | indexLineFall
deriving DecidableEq, Repr

end Sys2Proof
end

