-- ==== Sys2Proof/Decode.lean ====
section
/-! DEFINITION. The decoder of the table's words. spec/opcode_table.json gives no row any bits (every
"fields" is empty and no row has "fixed"), so no word spells a command. The requests a host sends are read
from frames, not from words: Machine/Operands.lean (R182, R186, Table 11-11). -/

namespace Sys2Proof

/-- The command a word spells by the table's bits: none, since no row of the table has bits. -/
def decodeTableWord (_nbits _w : Nat) : Option Instr := none

end Sys2Proof
end

