-- ==== Sys2Proof/Config.lean ====
section
/-! DEFINITION. What the spec leaves open, as opaque constants (free values: nothing proves a value of
one of them), and the fixed capacities of Table 1-2. Each free value is applied to the number of the
event that uses it (`LinkController.eventNo`) or to what it depends on, and has a row in notes/assumptions. -/

namespace Sys2Proof.Config

/-- R34: when a loss of reference comes with an ENCODER occurrence, the report and the HALT claim "may be
taken in either order". True: the claim is taken first. Log entry 5. -/
opaque claimBeforeReport : Nat → Bool

/-- R75: a standardize evaluation and a report that come together "may be taken in either order". True:
the evaluation is taken before the conversion of that report. Log entry 6. -/
opaque evaluationBeforeConversion : Nat → Bool

/-- R55, R63: the order in which the report that completes a cycle's collection reaches the Standardize
Unit and the slot's bad count and slow-channel assembly is not stated. True: the count and assembly are
worked first. Log entry 7. -/
opaque linkWorkBeforeEvaluation : Nat → Bool

/-- Table 11-11: the min_count byte of channel 4 is "ignored", so the byte sent back for it by SET FILTER
and GET CONFIG is not stated. Log entry 8. -/
opaque channel4MinCount : Nat → Byte

/-- Table 11-6: the field n of channel 4 in a point block record is not stated (channel 4 has a mean and
no count, R163). Log entry 9. -/
opaque channel4Count : Nat → Word16

/-- R149: a close at which both sides of the edge table move far raises two EDGE_SHIFT occurrences, in an order
that is not stated. True: the LOW side is written first. Log entry 40. -/
opaque lowEdgeFirst : Nat → Bool

/-- R173: sources that leave CLEAR at the same time give their claims "in either order". The place of one more claim
among those already put in order, of an event and the number of those. Log entry 10. -/
opaque claimPlace : Nat → Nat → Nat

/-- Table 11-5: the bit "mapped" of the READ PROFILE header is defined for EDGE mode alone (R102); its value
for a FIXED layout is not stated. Log entry 41. -/
opaque fixedMapped : Nat → Bool

/-- R196: a signed field of n bytes is sent in two's complement, and no rule says what is sent for a value that such a
field cannot hold, such as an index error p − home_position below −2,147,483,648 (R8, Table 11-8). Applied to the
number of bytes and the value. Log entry 47. -/
opaque beyondField : Nat → Int → Int

/-- Table 1-2: data boxes per layout. -/
def maxBoxes : Nat := 768

/-- Table 1-2: entries of the position history ring (R12). -/
def historyEntries : Nat := 16

/-- Table 1-2: records of the scan history ring (R133). -/
def scanRecords : Nat := 32

/-- Table 1-2: blocks of the point ring (R163). -/
def pointBlocks : Nat := 64

/-- Table 1-2: requests the request queue holds (R185). -/
def queueRequests : Nat := 4

/-- Table 1-2: largest message body (R182). -/
def maxBody : Nat := 1024

/-- R187: bytes of records in one chunk. -/
def chunkBytes : Nat := 1000

/-- R187: profile boxes in one chunk. -/
def boxesPerChunk : Nat := 250

/-- R175: the line readback timer, ms. -/
def readbackMs : Nat := 50

/-- R41: the drive-ready watch, ms. -/
def driveReadyMs : Nat := 10

/-- R191: the part code of the 680. -/
def partCode : Nat := 680

/-- R191: the revision number "1 for the part this manual describes". -/
def revision : Nat := 1

end Sys2Proof.Config
end

