-- ==== Sys2Proof/Machine/State.lean ====
section
/-! DEFINITION. The state of the 680, block by block as Table 1-1 lists them, as plain data, and the state
after a cold reset. Counters and positions are Nat or Int; what wraps or is sent as bits is a bit vector.
Long box arrays (accumulators, filtered values, stale counts) and the housekeeping table are sorted lists
of (index, value) pairs that list no default value (`Table`). -/

namespace Sys2Proof.Machine

/-- A sparse array: pairs in strictly rising index order, no default value listed. -/
abbrev Table (α : Type) := List (Nat × α)

/-! ### Position Unit (chapter 1) -/

/-- Table 1-6. -/
inductive RefState where
  | unknown
  | referenced
  | lost
deriving DecidableEq, Repr

/-- Why a change of reference is reported (R4). -/
inductive RefCause where
  | capture
  | transition
  | index
  | discard
  | config
deriving DecidableEq, Repr

/-- enc_dir of Table 1-7. -/
inductive EncSense where
  | normal
  | reversed
deriving DecidableEq, Repr

/-- FWD is toward the HIGH end, REV toward the LOW end (0.6 "Position"). -/
inductive Dir where
  | fwd
  | rev
deriving DecidableEq, Repr

/-- The frame configuration: the geometry of Table 1-7 and the motion fields of Table 2-3. -/
structure FrameConfig where
  travelMin : Nat
  travelMax : Nat
  homePosition : Nat
  indexTolerance : Nat
  parkPosition : Nat
  stdPosition : Nat
  encDir : EncSense
  vFull : Nat
  scanSpeed : Nat
  moveSpeed : Nat
  homingSpeed : Nat
  creepSpeed : Nat
  accelStep : Nat
  arriveTolerance : Nat
  overtravel : Nat
  reverseDwell : Nat
  stallSpeed : Nat
  stallTime : Nat
  moveTimeout : Nat
deriving DecidableEq, Repr

/-- The cold-reset values of Tables 1-7 and 2-3. -/
def FrameConfig.cold : FrameConfig where
  travelMin := 0
  travelMax := 150000
  homePosition := 0
  indexTolerance := 20
  parkPosition := 0
  stdPosition := 0
  encDir := .normal
  vFull := 12000
  scanSpeed := 8000
  moveSpeed := 8000
  homingSpeed := 2000
  creepSpeed := 100
  accelStep := 20
  arriveTolerance := 5
  overtravel := 2000
  reverseDwell := 100
  stallSpeed := 500
  stallTime := 500
  moveTimeout := 120

/-- One entry of the position history ring (Table 1-9). -/
structure HistEntry where
  seq : Word16
  position : Int
  scan : Option Nat
  shutterOpen : Bool
deriving DecidableEq, Repr

/-- The Position Unit (Table 1-10), with the levels of its input lines it must remember. -/
structure PositionUnit where
  counter : Word32
  encA : Bool
  encB : Bool
  reference : RefState
  captureArmed : Bool
  indexAsserted : Bool
  homeSw : Bool
  frame : FrameConfig
  configured : Bool
  history : List HistEntry
deriving DecidableEq, Repr

/-! ### Traverse Controller (chapter 2) -/

/-- The park causes of 2.1. -/
inductive ParkCause where
  | host
  | homed
  | brk
  | reaction
  | config
deriving DecidableEq, Repr

/-- The halt causes of 2.1. -/
inductive HaltCause where
  | reaction
  | limit
  | restart
deriving DecidableEq, Repr

/-- The after-cycle destinations of 2.1 and R30. -/
inductive CycleDest where
  | park
  | turnLow
  | ret
deriving DecidableEq, Repr

/-- The claims on the drive demand (Table 2-2); the holder is one of them or none. -/
inductive Claim where
  | halt
  | park
  | host
  | scheduledStd
  | scanProgram
deriving DecidableEq, Repr

/-- The phases of homing (R36). -/
inductive HomingPhase where
  | leave
  | seek
  | approach
deriving DecidableEq, Repr

/-- The phases of a move (2.4). -/
inductive MovePhase where
  | run
  | creep
deriving DecidableEq, Repr

/-- What a move is for and what it records (2.1, R23, R159). A move TO_TURN records the scan direction of
the scan to start and whether it is the return of a detour (R30, R72). -/
inductive Purpose where
  | toPark (cause : ParkCause)
  | toStd (dest : CycleDest)
  | toPoint (blockLength : Nat)
  | toTurn (dir : Dir) (detourReturn : Bool)
deriving DecidableEq, Repr

/-- A move: its purpose, clamped target and phase (R22, R23). -/
structure Move where
  purpose : Purpose
  target : Int
  phase : MovePhase
deriving DecidableEq, Repr

/-- The nine traverse states of Table 2-1 with what each carries. -/
inductive TravState where
  | unreferenced
  | homing (phase : HomingPhase)
  | parked (cause : ParkCause)
  | positioning (move : Move)
  | standardizing (dest : CycleDest)
  | traversing
  | reversing
  | dwelling
  | halted (cause : HaltCause)
deriving DecidableEq, Repr

/-- The Traverse Controller (Table 2-4), its output lines and its input lines. A timer is `some` of the
length it was started with while it runs. -/
structure Traverse where
  state : TravState
  holder : Option Claim
  scanDir : Dir
  speed : Nat
  driveDir : Dir
  duty : Nat
  drvEn : Bool
  shutter : Bool
  runningScan : Option Nat
  turnPoint : Option Int
  detour : Bool
  dwellTimer : Option Nat
  moveTimer : Option Nat
  stallTimer : Nat
  prevPosition : Word32
  readyWatch : Option Nat
  driveFault : Bool
  resumeAttempts : Nat
  drvReady : Bool
  limitLo : Bool
  limitHi : Bool
deriving DecidableEq, Repr

/-! ### Head Link Controller (chapter 3) -/

/-- Slot kinds of Table 3-1. -/
inductive SlotKind where
  | weight
  | water
  | caliper
  | aux
deriving DecidableEq, Repr

/-- Slot fields of Table 3-1. -/
structure SlotConfig where
  enabled : Bool
  kind : SlotKind
  windowStart : Nat
  windowLength : Nat
  lag : Nat
  errorLimit : Nat
deriving DecidableEq, Repr

/-- Frame outcomes of Table 3-3. -/
inductive FrameOutcome where
  | good
  | saturated
  | warming
  | fault
  | check
  | timing
  | overlap
  | missing
deriving DecidableEq, Repr

/-- The link state of one slot: whether its outcome of the running period is still unsettled, its
consecutive-bad count, its last outcome with that outcome's sequence, and the bits its assembly holds
(none: IDLE; n bits: COLLECTING(n)). -/
structure SlotLink where
  unsettled : Bool
  badCount : Nat
  lastOutcome : Option (FrameOutcome × Word16)
  assembly : List Bool
deriving DecidableEq, Repr

/-- The frame in reception: a slot's own frame (R52), a stray charged to a slot (R53), or a frame that
will be discarded (R52, R53). -/
inductive Reception where
  | own (slot : Fin 4)
  | stray (slot : Fin 4)
  | discarded
deriving DecidableEq, Repr

/-- A present housekeeping entry (3.6). -/
structure HkEntry where
  value : Byte
  count : Word16
deriving DecidableEq, Repr

/-- Watch fields of Table 3-5. -/
structure Watch where
  enabled : Bool
  slot : Fin 4
  item : Fin 16
  low : Nat
  high : Nat
deriving DecidableEq, Repr

/-- The Head Link Controller (Table 3-6). `faultSlots` and `trippedWatches` are the details of the
SENSOR_FAULT and HOUSEKEEPING conditions as last reported, empty while the condition is ended. -/
structure HeadLink where
  period : Option Nat
  nextSeq : Word16
  slots : Vector SlotConfig 4
  links : Vector SlotLink 4
  reception : Option Reception
  housekeeping : Table (Option HkEntry)
  watches : Vector Watch 8
  faultSlots : Byte
  trippedWatches : Byte
deriving DecidableEq, Repr

/-! ### Conversion Unit (chapter 4) -/

/-- A calibration curve: breakpoints (x, y) with x strictly rising (R69). -/
abbrev Curve := List (Nat × Int)

/-- Presence classifications (4.5). -/
inductive Presence where
  | present
  | absent
  | unknown
deriving DecidableEq, Repr

/-- The Conversion Unit (Table 4-2). -/
structure Conversion where
  curves : Vector (Option Curve) 4
  staged : Vector (Option Curve) 4
  presenceThreshold : Nat
  absenceThreshold : Nat
  hysteresisPresent : Bool
  latest : Presence
deriving DecidableEq, Repr

/-! ### Standardize Unit (chapter 5) -/

/-- Standardize settings of Table 5-1. -/
structure StdSettings where
  intervalScans : Nat
  darkSettle : Nat
  nDark : Nat
  refSettle : Nat
  nRef : Nat
  stdTimeout : Nat
  maxAge : Nat
  minSpan : Vector Nat 4
  driftLimit : Vector Nat 4
deriving DecidableEq, Repr

/-- Results of a standardize (Table 5-3). -/
inductive StdResult where
  | none
  | accepted
  | watch
  | span
  | drift
  | noData
  | abandoned
deriving DecidableEq, Repr

/-- The accepted values of a record: dark, ref and accepted_at are present together (Table 5-3). -/
structure StdAccepted where
  dark : Nat
  ref : Nat
  acceptedAt : Word32
deriving DecidableEq, Repr

/-- A standardize record (Table 5-3). -/
structure StdRecord where
  accepted : Option StdAccepted
  acceptedCount : Nat
  lastResult : StdResult
  lastDark : Option Nat
  lastRef : Option Nat
deriving DecidableEq, Repr

/-- Cycle causes (Table 5-2). -/
inductive CycleCause where
  | scheduled
  | request
  | start
deriving DecidableEq, Repr

/-- Phases of a cycle (5.2); EVALUATE holds no time of its own. -/
inductive CyclePhase where
  | darkSettle
  | dark
  | refSettle
  | ref
  | evaluate
deriving DecidableEq, Repr

/-- Collection states of a slot of a cycle (5.2). -/
inductive CollectState where
  | dark
  | refWait
  | ref
  | done
  | noData
deriving DecidableEq, Repr

/-- The collection of one slot of a running cycle (Table 5-2). -/
structure Collection where
  state : CollectState
  darkSum : Nat
  darkCount : Nat
  refSum : Nat
  refCount : Nat
deriving DecidableEq, Repr

/-- The running cycle context (Table 5-2); a slot outside the cycle has no collection. -/
structure Cycle where
  cause : CycleCause
  unconditional : Bool
  settings : StdSettings
  phase : CyclePhase
  phaseTimer : Option Nat
  timeoutTimer : Option Nat
  startedAt : Word32
  slots : Vector (Option Collection) 4
deriving DecidableEq, Repr

/-- The Standardize Unit (Table 5-4). `pendingRequest` is the unconditional option of the pending request;
`expiredSlots` the detail of STD_EXPIRED as last evaluated, empty while the condition is ended. -/
structure Standardize where
  settings : StdSettings
  records : Vector StdRecord 4
  scheduleCounter : Nat
  pendingRequest : Option Bool
  cycle : Option Cycle
  expiredSlots : Byte
deriving DecidableEq, Repr

/-! ### Box Accumulator (chapter 6) -/

/-- Layout modes (Table 6-1). -/
inductive LayoutMode where
  | fixed
  | edge
deriving DecidableEq, Repr

/-- A layout (Table 6-1). -/
structure Layout where
  mode : LayoutMode
  boxes : Nat
  origin : Nat
  width : Nat
deriving DecidableEq, Repr

/-- An exclusion zone (Table 6-2); bit n of `slots` is slot n. -/
structure Zone where
  enabled : Bool
  low : Nat
  high : Nat
  slots : Byte
  presenceIgnore : Bool
deriving DecidableEq, Repr

/-- How a scan maps positions to boxes: by the fixed layout, between the edges L and H, or not at all
(R101, R102, UNMAPPED). -/
inductive BoxMap where
  | fixed
  | edges (low high : Int)
  | unmapped
deriving DecidableEq, Repr

/-- The scan context of the Box Accumulator (R110). -/
structure BoxContext where
  scan : Nat
  dir : Dir
  layout : Layout
  map : BoxMap
deriving DecidableEq, Repr

/-- An accumulator (Table 6-3). -/
structure Accumulator where
  sum : Int
  count : Nat
deriving DecidableEq, Repr

/-- The Box Accumulator (Table 6-4). -/
structure BoxAccumulator where
  layout : Option Layout
  stagedLayout : Option Layout
  generation : Word16
  zones : Vector Zone 8
  stagedZones : Vector (Option Zone) 8
  context : Option BoxContext
  accumulators : Vector (Table Accumulator) 4
deriving DecidableEq, Repr

/-! ### Profile Unit (chapter 7) -/

/-- The filter of one channel (Table 7-1): F and the stale count of each box, 0 where not listed. -/
structure ChannelFilter where
  values : Table Int
  stale : Table Nat
  age : Nat
deriving DecidableEq, Repr

/-- Filter settings of one channel (Table 7-2), as applied. -/
structure FilterSettings where
  k : Nat
  minCount : Nat
  minValid : Nat
  staleLimit : Nat
deriving DecidableEq, Repr

/-- Scan outcomes with the cause of an abandonment (Table 7-3). -/
inductive AbandonCause where
  | brk
  | reaction
  | host
  | restart
deriving DecidableEq, Repr

/-- The scan context of the Profile Unit (R119). `channels` has bit c for channel c; `waterSlot` is the
slot of kind WATER of the channel set. -/
structure ScanContext where
  scan : Nat
  dir : Dir
  startPosition : Int
  millis : Nat
  channels : Byte
  waterSlot : Option (Fin 4)
  generation : Word16
  layout : Layout
  map : BoxMap
  stdExpired : Bool
  turnExtended : Bool
deriving DecidableEq, Repr

/-- A channel part of a scan record (Table 7-4). -/
structure ChannelPart where
  channel : Nat
  thin : Bool
  validBoxes : Nat
  average : Option Int
  rangeVariance : Option (Nat × Nat)
deriving DecidableEq, Repr

/-- A scan record (Table 7-3). `abandoned` is none for COMPLETE. -/
structure ScanRecord where
  scan : Nat
  dir : Dir
  abandoned : Option AbandonCause
  startPosition : Int
  endPosition : Int
  duration : Nat
  generation : Word16
  layout : Layout
  map : BoxMap
  stdExpired : Bool
  turnExtended : Bool
  holes : Nat
  lowEdge : Option Int
  highEdge : Option Int
  parts : List ChannelPart
deriving DecidableEq, Repr

/-- Box states of R125. -/
inductive BoxState where
  | valid
  | missing
  | void
deriving DecidableEq, Repr

/-- One box of a channel of a bank (Table 7-5). -/
structure BankBox where
  filtered : Int
  scanValue : Option Int
  state : BoxState
deriving DecidableEq, Repr

/-- One present channel of a bank (Table 7-5), boxes 0 to N - 1 in order. -/
structure BankChannel where
  thin : Bool
  validBoxes : Nat
  average : Option Int
  age : Nat
  boxes : List BankBox
deriving DecidableEq, Repr

/-- A profile bank (Table 7-5). -/
structure Bank where
  scan : Nat
  dir : Dir
  generation : Word16
  layout : Layout
  map : BoxMap
  channels : Vector (Option BankChannel) 5
deriving DecidableEq, Repr

/-- The Profile Unit (Table 7-6). -/
structure ProfileUnit where
  nextScan : Nat
  context : Option ScanContext
  filters : Vector ChannelFilter 5
  settings : Vector FilterSettings 5
  banks : Vector (Option Bank) 2
  published : Option (Fin 2)
  held : Option (Fin 2)
  waiting : Option (Fin 2)
  lastWritten : Fin 2
  history : List ScanRecord
deriving DecidableEq, Repr

/-! ### Edge and Break Monitor (chapter 8) -/

/-- Sheet settings of Table 8-1, other than the two presence thresholds. -/
structure SheetSettings where
  edgeRun : Nat
  edgeShiftLimit : Nat
  interiorMargin : Nat
  holeRun : Nat
  breakRun : Nat
  breakDebounce : Nat
  breakHoldoff : Nat
  autoresume : Bool
  resumeLimit : Nat
deriving DecidableEq, Repr

/-- The qualification of the absent run (R151, R152, R157). -/
inductive Qualification where
  | none
  | qualified
  | reported
  | disqualified
deriving DecidableEq, Repr

/-- States of an edge (Table 8-2). -/
inductive EdgeState where
  | unknown
  | found
  | beyond
deriving DecidableEq, Repr

/-- An edge table entry (Table 8-2): position and scan of the last find are present together. -/
structure EdgeEntry where
  state : EdgeState
  find : Option (Int × Nat)
  shift : Option Int
deriving DecidableEq, Repr

/-- The search context of the running scan (R146). `lastReading` is the presence of the last counted
reading of the traverse (R148). -/
structure SearchContext where
  scan : Nat
  dir : Dir
  interior : Option (Int × Int)
  airSeen : Bool
  sheetSeen : Bool
  leading : Option Int
  lastPresent : Option Int
  lastReading : Option Presence
  holes : Nat
deriving DecidableEq, Repr

/-- The hold-off (Table 8-3); RUNNING carries the remaining time in ms. -/
inductive Holdoff where
  | idle
  | wait
  | running (remaining : Nat)
  | due
deriving DecidableEq, Repr

/-- The outcome of the last resume step (R156). -/
inductive ResumeOutcome where
  | none
  | notTried
  | taken
  | refused
deriving DecidableEq, Repr

/-- The Edge and Break Monitor (Table 8-4) and the level of BREAK_IN. -/
structure EdgeMonitor where
  settings : SheetSettings
  presentRun : Nat
  absentRun : Nat
  presentFirst : Option Int
  absentFirst : Option Int
  qualification : Qualification
  low : EdgeEntry
  high : EdgeEntry
  context : Option SearchContext
  breakIn : Bool
  accepted : Bool
  debounce : Option Nat
  holdoff : Holdoff
  lastResume : ResumeOutcome
deriving DecidableEq, Repr

/-! ### Point Recorder (chapter 9) -/

/-- How a dwell ended (R164). -/
inductive DwellEnd where
  | stop
  | start
  | point
  | park
  | halt
  | reference
deriving DecidableEq, Repr

/-- The open dwell (R161). `channels` has bit c for slot channel c. -/
structure OpenDwell where
  target : Int
  blockLength : Nat
  pendingLength : Option Nat
  block : Nat
  syncs : Nat
  channels : Byte
  waterSlot : Option (Fin 4)
  sums : Vector Accumulator 4
  presentCount : Nat
deriving DecidableEq, Repr

/-- The dwell context: NONE, OPEN or ENDED (chapter 9). -/
inductive Dwell where
  | none
  | opened (d : OpenDwell)
  | ended (target : Int) (cause : DwellEnd) (channels : Byte)
deriving DecidableEq, Repr

/-- One channel of a point block: its number, its count (channel 4 has none) and its mean (R163). -/
structure BlockChannel where
  channel : Nat
  count : Option Nat
  mean : Option Int
deriving DecidableEq, Repr

/-- A point block (R163). -/
structure PointBlock where
  block : Nat
  position : Int
  presentCount : Nat
  channels : List BlockChannel
deriving DecidableEq, Repr

/-- The Point Recorder (chapter 9). -/
structure PointRecorder where
  dwell : Dwell
  ring : List PointBlock
deriving DecidableEq, Repr

/-! ### Alarm Unit (chapter 10) -/

/-- States of an alarm entry (Table 10-2). -/
inductive AlarmState where
  | clear
  | active
  | activeAcked
  | latched
deriving DecidableEq, Repr

/-- The detail of an alarm entry (Tables 10-1 and 11-8). -/
inductive Detail where
  | position (p : Int)
  | hole (p : Int) (length : Nat)
  | set (members : Byte)
  | stall (p : Int) (speed : Nat) (state : TravState)
  | lines (lo hi : Bool)
  | transition (p : Int)
  | indexError (p error : Int)
  | levels (out sense : Bool)
  | edgeShift (high : Bool) (old new : Int)
  | moveTimeout (state : TravState) (p : Int)
deriving DecidableEq, Repr

/-- What an entry keeps of its episode (Table 10-2), from the first occurrence on. -/
structure Episode where
  firstUptime : Word32
  firstScan : Option Nat
  lastUptime : Word32
  detail : Option Detail
  drill : Bool
deriving DecidableEq, Repr

/-- An alarm entry (Table 10-2). -/
structure AlarmEntry where
  state : AlarmState
  count : Nat
  episode : Option Episode
  lineMark : Bool
deriving DecidableEq, Repr

/-- A reaction set (10.3). -/
structure Reactions where
  report : Bool
  park : Bool
  halt : Bool
  line : Bool
deriving DecidableEq, Repr

/-- A claim an alarm gives the Traverse Controller (R173). -/
inductive AlarmClaim where
  | halt
  | park (cause : ParkCause)
deriving DecidableEq, Repr

/-- The Alarm Unit (Table 10-3), the levels of ALARM_OUT and ALARM_SENSE, and the levels LINE_CHECK was
last reported with. `claims` is the model's own: the claims given in the running event and not yet taken;
it is empty between events. -/
structure AlarmUnit where
  entries : Vector AlarmEntry 16
  sets : Vector Reactions 16
  alarmOut : Bool
  alarmSense : Bool
  readback : Option Nat
  lineCheck : Option (Bool × Bool)
  claims : List AlarmClaim
deriving DecidableEq, Repr

/-! ### Link Controller (chapter 11) -/

/-- The receive assembler (R182). -/
inductive RxState where
  | hunt
  | content (bytes : List Byte)
  | escape (bytes : List Byte)
deriving DecidableEq, Repr

/-- Reply statuses (Table 11-1). -/
inductive Status where
  | ok
  | accepted
  | staged
  | busy
  | state
  | blocked
  | invalid
  | unknown
  | malformed
deriving DecidableEq, Repr

/-- The last link error (R184). -/
inductive LinkError where
  | none
  | short
  | escape
  | framing
  | length
  | check
  | overrun
deriving DecidableEq, Repr

/-- Causes of a start (R191). -/
inductive StartCause where
  | power
  | pin
  | restart
deriving DecidableEq, Repr

/-- A frame's kind, tag and body (Table 11-3); a request in the queue is one. -/
structure Message where
  kind : Byte
  tag : Byte
  body : List Byte
deriving DecidableEq, Repr

/-- A message waiting in a slot, and the number of the event in which it became ready (R188). -/
structure Waiting where
  message : Message
  ready : Nat
deriving DecidableEq, Repr

/-- What the remaining chunks of a readout are formed from: record byte strings copied at dispatch, or a
range of boxes of the held bank (R187). -/
inductive ReadoutSource where
  | records (rest : List (List Byte))
  | profile (channel : Nat) (scanForm : Bool) (nextBox count : Nat)
deriving DecidableEq, Repr

/-- The readout in flight (R187). `first` is the first chunk, formed at dispatch, until it is chosen. -/
structure Readout where
  kind : Byte
  tag : Byte
  next : Nat
  first : Option (List Byte)
  source : ReadoutSource
  ready : Nat
deriving DecidableEq, Repr

/-- Notice keys (R189): sixteen ALARM keys, SCAN, MOTION and STD. -/
inductive NoticeKey where
  | alarm (source : Fin 16)
  | scan
  | motion
  | std
deriving DecidableEq, Repr

/-- A notice in the queue: its key, its body, and the number of the event in which it joined. -/
structure QueuedNotice where
  key : NoticeKey
  body : List Byte
  joined : Nat
deriving DecidableEq, Repr

/-- The notice mask (R190). -/
structure NoticeMask where
  alarm : Bool
  scan : Bool
  motion : Bool
  std : Bool
deriving DecidableEq, Repr

/-- What the frame being sent came from (R188). -/
inductive TxOrigin where
  | notice (key : NoticeKey)
  | refusal
  | reply
  | chunk (last : Bool)
deriving DecidableEq, Repr

/-- The frame being sent: its origin, its message, and the bytes as they go on TXD, delimiter and escapes
included (R188). -/
structure TxFrame where
  origin : TxOrigin
  message : Message
  wire : List Byte
deriving DecidableEq, Repr

/-- The Link Controller (Table 11-2). `baud1` and `baud0` are the straps read at the cold reset (R181).
`eventNo` is the model's own: the number of events taken so far, by which R188 compares when notices
joined and when frames became ready, and to which the free values are applied. -/
structure LinkController where
  baud1 : Bool
  baud0 : Bool
  rx : RxState
  queue : List Message
  slot : Option Waiting
  refusal : Option Waiting
  readout : Option Readout
  notices : List QueuedNotice
  mask : NoticeMask
  lastError : LinkError
  uptime : Word32
  startCause : StartCause
  transmitting : Option TxFrame
  eventNo : Nat
deriving DecidableEq, Repr

/-! ### The whole machine -/

/-- The state of the 680: its eleven blocks (Table 1-1) and the queue of commands that wait. -/
structure State where
  position : PositionUnit
  traverse : Traverse
  headLink : HeadLink
  conversion : Conversion
  standardize : Standardize
  boxes : BoxAccumulator
  profile : ProfileUnit
  edges : EdgeMonitor
  point : PointRecorder
  alarms : AlarmUnit
  link : LinkController
  pending : List Instr
deriving DecidableEq, Repr

/-- Why the machine stops. Nothing stops the 680: the spec gives every command an effect in every state
(an event that cannot occur leaves the state as it is, log entry 2), so there is no fault. -/
inductive Fault where
deriving DecidableEq, Repr

/-- Why a command is refused. -/
inductive Refusal where
  /-- Raised by `exec` for a command with no meaning yet (safe). No arm raises it now. -/
  | notModelled (mnemonic : String)
deriving DecidableEq, Repr

/-! ### The state after a cold reset -/

/-- Table 3-1, cold-reset values: slot 0 is WEIGHT, slots 1 to 3 are AUX. -/
def SlotConfig.cold (kind : SlotKind) : SlotConfig where
  enabled := false
  kind := kind
  windowStart := 0
  windowLength := 50
  lag := 0
  errorLimit := 10

/-- Table 3-6: no outcome, count 0, assembly IDLE. -/
def SlotLink.cold : SlotLink where
  unsettled := false
  badCount := 0
  lastOutcome := none
  assembly := []

/-- Table 3-5, cold-reset values. -/
def Watch.cold : Watch where
  enabled := false
  slot := 0
  item := 0
  low := 0
  high := 255

/-- Table 5-1, cold-reset values. -/
def StdSettings.cold : StdSettings where
  intervalScans := 0
  darkSettle := 500
  nDark := 200
  refSettle := 1000
  nRef := 500
  stdTimeout := 30
  maxAge := 14400
  minSpan := Vector.replicate 4 1000
  driftLimit := Vector.replicate 4 50

/-- Table 5-4, cold: nothing accepted, last result NONE. -/
def StdRecord.cold : StdRecord where
  accepted := none
  acceptedCount := 0
  lastResult := .none
  lastDark := none
  lastRef := none

/-- Table 6-2, cold-reset values. -/
def Zone.cold : Zone where
  enabled := false
  low := 0
  high := 0
  slots := 0
  presenceIgnore := false

/-- Table 7-6: every F, stale count and the age 0. -/
def ChannelFilter.cold : ChannelFilter where
  values := []
  stale := []
  age := 0

/-- Table 7-2, cold-reset values. -/
def FilterSettings.cold : FilterSettings where
  k := 3
  minCount := 2
  minValid := 1
  staleLimit := 3

/-- Table 8-1, cold-reset values. -/
def SheetSettings.cold : SheetSettings where
  edgeRun := 8
  edgeShiftLimit := 500
  interiorMargin := 1000
  holeRun := 3
  breakRun := 50
  breakDebounce := 200
  breakHoldoff := 30
  autoresume := true
  resumeLimit := 3

/-- R158: an edge UNKNOWN, with no position, scan or shift. -/
def EdgeEntry.cold : EdgeEntry where
  state := .unknown
  find := none
  shift := none

/-- Table 10-3: an entry CLEAR, its count 0, no occurrence, no mark. -/
def AlarmEntry.cold : AlarmEntry where
  state := .clear
  count := 0
  episode := none
  lineMark := false

/-- The default reactions of Table 10-1, in source order. -/
def Reactions.defaults : Vector Reactions 16 :=
  let report : Reactions := ⟨true, false, false, false⟩
  let parks : Reactions := ⟨true, true, false, false⟩
  let halts : Reactions := ⟨true, false, true, true⟩
  #v[parks, parks, report, report, report, report, report, report,
     halts, halts, halts, halts, report, report, report, ⟨true, false, true, false⟩]

/-- Table 1-10, cold. -/
def PositionUnit.cold : PositionUnit where
  counter := 0
  encA := false
  encB := false
  reference := .unknown
  captureArmed := false
  indexAsserted := false
  homeSw := false
  frame := FrameConfig.cold
  configured := false
  history := []

/-- Table 2-4, cold. -/
def Traverse.cold : Traverse where
  state := .unreferenced
  holder := none
  scanDir := .fwd
  speed := 0
  driveDir := .rev
  duty := 0
  drvEn := false
  shutter := false
  runningScan := none
  turnPoint := none
  detour := false
  dwellTimer := none
  moveTimer := none
  stallTimer := 0
  prevPosition := 0
  readyWatch := none
  driveFault := false
  resumeAttempts := 0
  drvReady := false
  limitLo := false
  limitHi := false

/-- Table 3-6, cold. -/
def HeadLink.cold : HeadLink where
  period := none
  nextSeq := 0
  slots := #v[SlotConfig.cold .weight, SlotConfig.cold .aux, SlotConfig.cold .aux, SlotConfig.cold .aux]
  links := Vector.replicate 4 SlotLink.cold
  reception := none
  housekeeping := []
  watches := Vector.replicate 8 Watch.cold
  faultSlots := 0
  trippedWatches := 0

/-- Table 4-2, cold. -/
def Conversion.cold : Conversion where
  curves := Vector.replicate 4 none
  staged := Vector.replicate 4 none
  presenceThreshold := 31000
  absenceThreshold := 32000
  hysteresisPresent := false
  latest := .unknown

/-- Table 5-4, cold. -/
def Standardize.cold : Standardize where
  settings := StdSettings.cold
  records := Vector.replicate 4 StdRecord.cold
  scheduleCounter := 0
  pendingRequest := none
  cycle := none
  expiredSlots := 0

/-- Table 6-4, cold. -/
def BoxAccumulator.cold : BoxAccumulator where
  layout := none
  stagedLayout := none
  generation := 0
  zones := Vector.replicate 8 Zone.cold
  stagedZones := Vector.replicate 8 none
  context := none
  accumulators := Vector.replicate 4 []

/-- Table 7-6, cold: "next written is bank 1", so the last written counts as bank 0. -/
def ProfileUnit.cold : ProfileUnit where
  nextScan := 1
  context := none
  filters := Vector.replicate 5 ChannelFilter.cold
  settings := Vector.replicate 5 FilterSettings.cold
  banks := Vector.replicate 2 none
  published := none
  held := none
  waiting := none
  lastWritten := 0
  history := []

/-- Table 8-4, cold. -/
def EdgeMonitor.cold : EdgeMonitor where
  settings := SheetSettings.cold
  presentRun := 0
  absentRun := 0
  presentFirst := none
  absentFirst := none
  qualification := .none
  low := EdgeEntry.cold
  high := EdgeEntry.cold
  context := none
  breakIn := false
  accepted := false
  debounce := none
  holdoff := .idle
  lastResume := .none

/-- R166, cold. -/
def PointRecorder.cold : PointRecorder where
  dwell := .none
  ring := []

/-- Table 10-3, cold. -/
def AlarmUnit.cold : AlarmUnit where
  entries := Vector.replicate 16 AlarmEntry.cold
  sets := Reactions.defaults
  alarmOut := false
  alarmSense := false
  readback := none
  lineCheck := none
  claims := []

/-- Table 11-2, cold. -/
def LinkController.cold : LinkController where
  baud1 := false
  baud0 := false
  rx := .hunt
  queue := []
  slot := none
  refusal := none
  readout := none
  notices := []
  mask := ⟨true, true, true, true⟩
  lastError := .none
  uptime := 0
  startCause := .power
  transmitting := none
  eventNo := 0

/-- The machine right after a cold reset by power-on with every input line low (the levels of the input
lines and the start cause are the model's choice, log entry 1); everything else as Tables 1-10, 2-4, 3-6,
4-2, 5-4, 6-4, 7-6, 8-4, 10-3 and 11-2 give it. -/
def State.reset : State where
  position := PositionUnit.cold
  traverse := Traverse.cold
  headLink := HeadLink.cold
  conversion := Conversion.cold
  standardize := Standardize.cold
  boxes := BoxAccumulator.cold
  profile := ProfileUnit.cold
  edges := EdgeMonitor.cold
  point := PointRecorder.cold
  alarms := AlarmUnit.cold
  link := LinkController.cold
  pending := []

end Sys2Proof.Machine
end

