-- ==== Sys2Proof/Machine/Ops.lean ====
section
/-! DEFINITION. The named operations every block uses: rounding, sparse tables, sets as bits, byte order,
the two checks (CRC-5, CRC-16), escaping, the setters of the eleven blocks, and the event number. -/

namespace Sys2Proof.Machine

/-! ### Arithmetic (0.6 "Rounding"). Every computation the spec gives in 48 or 64 bits is exact in Int and
Nat, since the spec's own bounds keep it inside those widths (log entry 29). -/

/-- The quotient rounded to the nearest integer, halves away from zero. -/
def roundNat (a b : Nat) : Nat := (2 * a + b) / (2 * b)

/-- The quotient rounded to the nearest integer, halves away from zero. -/
def roundInt (a : Int) (b : Nat) : Int :=
  if a < 0 then -(roundNat a.natAbs b : Int) else (roundNat a.natAbs b : Int)

/-- A value held within two bounds. -/
def clampInt (lo hi x : Int) : Int := max lo (min x hi)

/-- The next of the 32-bit numbers that never take 0: 4,294,967,295 is followed by 1 (R118, R163). -/
def nextNumber (n : Nat) : Nat := if n = 4294967295 then 1 else n + 1

/-- The other direction. -/
def Dir.flip : Dir → Dir
  | .fwd => .rev
  | .rev => .fwd

/-! ### Vectors and sparse tables -/

/-- The vector whose entry i is f i. -/
def tabulate {α : Type} (n : Nat) (f : Fin n → α) : Vector α n := ⟨(List.ofFn f).toArray, by simp⟩

/-- The entry of a table at an index, or the default where none is listed. -/
def Table.get {α : Type} (d : α) (t : Table α) (i : Nat) : α :=
  match t with
  | [] => d
  | (j, v) :: rest => if j = i then v else Table.get d rest i

/-- The table with an entry put in its place among rising indices. -/
def Table.insert {α : Type} (i : Nat) (v : α) : Table α → Table α
  | [] => [(i, v)]
  | (j, w) :: rest => if i < j then (i, v) :: (j, w) :: rest else (j, w) :: Table.insert i v rest

/-- The table with index i set to v; the default is not listed. -/
def Table.put {α : Type} [DecidableEq α] (d : α) (t : Table α) (i : Nat) (v : α) : Table α :=
  let others := t.filter fun e => e.1 ≠ i
  if v = d then others else Table.insert i v others

/-- The table of f over indices 0 to n - 1; the default is not listed. -/
def Table.build {α : Type} [DecidableEq α] (d : α) (n : Nat) (f : Nat → α) : Table α :=
  (List.range n).filterMap fun i => if f i = d then none else some (i, f i)

/-- Canonical form: indices strictly rising, no default listed. -/
def Table.wf {α : Type} [DecidableEq α] (d : α) (t : Table α) : Bool :=
  decide (t.Pairwise fun a b => a.1 < b.1) && t.all fun e => e.2 ≠ d

/-! ### Sets and bytes (R196) -/

/-- A set as one byte: bit i is member i. -/
def byteSet (p : Nat → Bool) : Byte :=
  (List.range 8).foldl (fun m i => if p i then m ||| (1#8 <<< i) else m) 0

/-- A set of sources as two bytes: bit i is source i. -/
def wordSet (p : Nat → Bool) : Word16 :=
  (List.range 16).foldl (fun m i => if p i then m ||| (1#16 <<< i) else m) 0

/-- n bytes of a number, low byte first. -/
def leBytes : Nat → Nat → List Byte
  | 0, _ => []
  | n + 1, v => BitVec.ofNat 8 v :: leBytes n (v / 256)

/-- n bytes of a signed number in two's complement, low byte first. -/
def leInt (n : Nat) (v : Int) : List Byte := leBytes n (v % (256 ^ n : Nat)).toNat

/-- What a signed field of n bytes holds for a value: the value where it fits, else a free value (log entry 47). -/
def fieldValue (n : Nat) (v : Int) : Int :=
  if -(2 : Int) ^ (8 * n - 1) ≤ v ∧ v < 2 ^ (8 * n - 1) then v else Config.beyondField n v

/-- n bytes of a signed number that the field may be too small for (R196, log entry 47). -/
def signedField (n : Nat) (v : Int) : List Byte := leInt n (fieldValue n v)

/-- The number that bytes carry, low byte first. -/
def fromLe : List Byte → Nat
  | [] => 0
  | b :: rest => b.toNat + 256 * fromLe rest

/-- The number in n bytes of a body from an offset on. -/
def fieldAt (body : List Byte) (offset n : Nat) : Nat := fromLe ((body.drop offset).take n)

/-- A yes/no field: 0 for no, 1 for yes. -/
def flagByte (b : Bool) : Byte := if b then 1 else 0

/-- A yes/no byte read: none if it is neither 0 nor 1 (R196). -/
def readFlag (b : Byte) : Option Bool :=
  if b = 0 then some false else if b = 1 then some true else none

/-! ### Checks -/

/-- One bit of the frame check of the head link, polynomial x⁵ + x² + 1 (R51). -/
def crc5Bit (reg : BitVec 5) (bit : Bool) : BitVec 5 :=
  if (bit != reg.msb) then (reg <<< 1) ^^^ 0b00101#5 else reg <<< 1

/-- The check of the 20 bits M … value, taken in the order sent, from 10101 (R51). -/
def crc5 (bits : BitVec 20) : BitVec 5 :=
  (List.range 20).foldl (fun reg i => crc5Bit reg (bits.getMsbD i)) 0b10101#5

/-- One bit of the frame check of the serial line, polynomial 0x1021 (R183). -/
def crc16Bit (reg : Word16) (bit : Bool) : Word16 :=
  if (bit != reg.msb) then (reg <<< 1) ^^^ 0x1021#16 else reg <<< 1

/-- One byte of the check, most significant bit first (R183). -/
def crc16Byte (reg : Word16) (b : Byte) : Word16 :=
  (List.range 8).foldl (fun r i => crc16Bit r (b.getMsbD i)) reg

/-- The check of a frame's content, from 0xFFFF (R183). -/
def crc16 (content : List Byte) : Word16 := content.foldl crc16Byte 0xFFFF#16

/-- One content byte as it is sent: 0xF0 and 0xF1 are escaped (R188). -/
def escapeByte (b : Byte) : List Byte :=
  if b = 0xF0 ∨ b = 0xF1 then [0xF1, b ^^^ 0x20] else [b]

/-- The content of a frame before its check: kind, tag, body length, body (Table 11-3). -/
def Message.content (m : Message) : List Byte :=
  [m.kind, m.tag] ++ leBytes 2 m.body.length ++ m.body

/-- The bytes of a frame on the line: one delimiter, then the content and check, escaped (R182, R183,
R188). -/
def Message.wire (m : Message) : List Byte :=
  0xF0 :: (m.content ++ leBytes 2 (crc16 m.content).toNat).flatMap escapeByte

/-! ### Block setters -/

/-- The state with another Position Unit. -/
def State.setPosition (s : State) (x : PositionUnit) : State := { s with position := x }
/-- The state with another Traverse Controller. -/
def State.setTraverse (s : State) (x : Traverse) : State := { s with traverse := x }
/-- The state with another Head Link Controller. -/
def State.setHeadLink (s : State) (x : HeadLink) : State := { s with headLink := x }
/-- The state with another Conversion Unit. -/
def State.setConversion (s : State) (x : Conversion) : State := { s with conversion := x }
/-- The state with another Standardize Unit. -/
def State.setStandardize (s : State) (x : Standardize) : State := { s with standardize := x }
/-- The state with another Box Accumulator. -/
def State.setBoxes (s : State) (x : BoxAccumulator) : State := { s with boxes := x }
/-- The state with another Profile Unit. -/
def State.setProfile (s : State) (x : ProfileUnit) : State := { s with profile := x }
/-- The state with another Edge and Break Monitor. -/
def State.setEdges (s : State) (x : EdgeMonitor) : State := { s with edges := x }
/-- The state with another Point Recorder. -/
def State.setPoint (s : State) (x : PointRecorder) : State := { s with point := x }
/-- The state with another Alarm Unit. -/
def State.setAlarms (s : State) (x : AlarmUnit) : State := { s with alarms := x }
/-- The state with another Link Controller. -/
def State.setLink (s : State) (x : LinkController) : State := { s with link := x }

/-! ### Reading the state -/

/-- The position counter as a signed count of ticks (R3). -/
def State.counter (s : State) : Int := s.position.counter.toInt

/-- The speeds, limits and positions in force. -/
def State.frame (s : State) : FrameConfig := s.position.frame

/-- The state with the number of the event now taken (log entry 4 says why events are numbered). -/
def State.nextEvent (s : State) : State := s.setLink { s.link with eventNo := s.link.eventNo + 1 }

/-- The code of a value in its enumeration of Table 11-10, for the values a state holds. -/
def RefState.code : RefState → Nat
  | .unknown => 0
  | .referenced => 1
  | .lost => 2

/-- Table 11-10, direction. -/
def Dir.code : Dir → Nat
  | .fwd => 0
  | .rev => 1

/-- Table 11-10, encoder sense. -/
def EncSense.code : EncSense → Nat
  | .normal => 0
  | .reversed => 1

/-- Table 11-10, park cause. -/
def ParkCause.code : ParkCause → Nat
  | .host => 0
  | .homed => 1
  | .brk => 2
  | .reaction => 3
  | .config => 4

/-- Table 11-10, halt cause. -/
def HaltCause.code : HaltCause → Nat
  | .reaction => 0
  | .limit => 1
  | .restart => 2

/-- Table 11-10, purpose. -/
def Purpose.code : Purpose → Nat
  | .toPark _ => 0
  | .toStd _ => 1
  | .toPoint _ => 2
  | .toTurn _ _ => 3

/-- Table 11-10, after-cycle destination; 0 is none. -/
def CycleDest.code : CycleDest → Nat
  | .park => 1
  | .turnLow => 2
  | .ret => 3

/-- Table 11-10, traverse state. -/
def TravState.code : TravState → Nat
  | .unreferenced => 0
  | .homing _ => 1
  | .parked _ => 2
  | .positioning _ => 3
  | .standardizing _ => 4
  | .traversing => 5
  | .reversing => 6
  | .dwelling => 7
  | .halted _ => 8

/-- The purpose of the move, in POSITIONING. -/
def TravState.purpose : TravState → Option Purpose
  | .positioning m => some m.purpose
  | _ => none

/-- The park cause in PARKED and in POSITIONING TO_PARK (2.1). -/
def TravState.parkCause : TravState → Option ParkCause
  | .parked c => some c
  | .positioning ⟨.toPark c, _, _⟩ => some c
  | _ => none

/-- The halt cause in HALTED. -/
def TravState.haltCause : TravState → Option HaltCause
  | .halted c => some c
  | _ => none

/-- The after-cycle destination in POSITIONING TO_STD and STANDARDIZING (2.1). -/
def TravState.destination : TravState → Option CycleDest
  | .standardizing d => some d
  | .positioning ⟨.toStd d, _, _⟩ => some d
  | _ => none

/-- The qualifier of Table 11-7: the purpose in POSITIONING, the park cause in PARKED, the halt cause in
HALTED, else 0. -/
def TravState.qualifier : TravState → Nat
  | .positioning m => m.purpose.code
  | .parked c => c.code
  | .halted c => c.code
  | _ => 0

/-- The park cause byte of MOTION and STATUS: the cause in PARKED and POSITIONING TO_PARK, else 0. -/
def TravState.parkCauseCode (t : TravState) : Nat := (t.parkCause.map ParkCause.code).getD 0

/-- The after-cycle destination byte of MOTION and STATUS; 0 is none. -/
def TravState.destinationCode (t : TravState) : Nat := (t.destination.map CycleDest.code).getD 0

/-- Table 11-10, start cause. -/
def StartCause.code : StartCause → Nat
  | .power => 0
  | .pin => 1
  | .restart => 2

/-- Table 11-10, alarm state. -/
def AlarmState.code : AlarmState → Nat
  | .clear => 0
  | .active => 1
  | .activeAcked => 2
  | .latched => 3

/-- Table 11-10, frame outcome. -/
def FrameOutcome.code : FrameOutcome → Nat
  | .good => 0
  | .saturated => 1
  | .warming => 2
  | .fault => 3
  | .check => 4
  | .timing => 5
  | .overlap => 6
  | .missing => 7

/-- Table 11-10, cause of a scan outcome; 0 is none. -/
def AbandonCause.code : AbandonCause → Nat
  | .brk => 1
  | .reaction => 2
  | .host => 3
  | .restart => 4

/-- Table 11-10, box state. -/
def BoxState.code : BoxState → Nat
  | .valid => 0
  | .missing => 1
  | .void => 2

/-- Table 11-10, standardize result. -/
def StdResult.code : StdResult → Nat
  | .none => 0
  | .accepted => 1
  | .watch => 2
  | .span => 3
  | .drift => 4
  | .noData => 5
  | .abandoned => 6

/-- Table 11-10, cycle cause. -/
def CycleCause.code : CycleCause → Nat
  | .scheduled => 0
  | .request => 1
  | .start => 2

/-- Table 11-10, cycle phase. -/
def CyclePhase.code : CyclePhase → Nat
  | .darkSettle => 0
  | .dark => 1
  | .refSettle => 2
  | .ref => 3
  | .evaluate => 4

/-- Table 11-10, collection state. -/
def CollectState.code : CollectState → Nat
  | .dark => 0
  | .refWait => 1
  | .ref => 2
  | .done => 3
  | .noData => 4

/-- Table 11-10, presence. -/
def Presence.code : Presence → Nat
  | .present => 0
  | .absent => 1
  | .unknown => 2

/-- Table 11-10, slot kind. -/
def SlotKind.code : SlotKind → Nat
  | .weight => 0
  | .water => 1
  | .caliper => 2
  | .aux => 3

/-- Table 11-10, layout mode. -/
def LayoutMode.code : LayoutMode → Nat
  | .fixed => 0
  | .edge => 1

/-- Table 11-10, edge state. -/
def EdgeState.code : EdgeState → Nat
  | .unknown => 0
  | .found => 1
  | .beyond => 2

/-- Table 11-10, qualification. -/
def Qualification.code : Qualification → Nat
  | .none => 0
  | .qualified => 1
  | .reported => 2
  | .disqualified => 3

/-- Table 11-10, hold-off. -/
def Holdoff.code : Holdoff → Nat
  | .idle => 0
  | .wait => 1
  | .running _ => 2
  | .due => 3

/-- Table 11-10, resume outcome. -/
def ResumeOutcome.code : ResumeOutcome → Nat
  | .none => 0
  | .notTried => 1
  | .taken => 2
  | .refused => 3

/-- Table 11-10, end cause of a dwell; 0 is none. -/
def DwellEnd.code : DwellEnd → Nat
  | .stop => 1
  | .start => 2
  | .point => 3
  | .park => 4
  | .halt => 5
  | .reference => 6

/-- Table 11-10, last link error. -/
def LinkError.code : LinkError → Nat
  | .none => 0
  | .short => 1
  | .escape => 2
  | .framing => 3
  | .length => 4
  | .check => 5
  | .overrun => 6

/-- Table 11-1. -/
def Status.code : Status → Nat
  | .ok => 0
  | .accepted => 1
  | .staged => 2
  | .busy => 3
  | .state => 4
  | .blocked => 5
  | .invalid => 6
  | .unknown => 7
  | .malformed => 8

/-- The line speed code of Table 11-10: the position of the speed in its list (R181). -/
def speedCode (baud1 baud0 : Bool) : Nat := 2 * baud1.toNat + baud0.toNat

end Sys2Proof.Machine
end

