-- ==== Sys2Proof/Machine/Flags.lean ====
section
/-! DEFINITION. The yes/no questions the blocks ask of one another, and the functions of the state they
read: readiness, blocking, the staging states, the braking distance, turn points, attribution, zones,
windows, watches. None of them changes anything. -/

namespace Sys2Proof.Machine

/-! ### Traverse states -/

/-- DRV_EN in a traverse state (Table 2-1, R18). -/
def TravState.driveOn : TravState → Bool
  | .unreferenced => false
  | .halted _ => false
  | _ => true

/-- The level SHUTTER takes at entry to a traverse state (R24); in STANDARDIZING it is closed at entry. -/
def TravState.opensShutter : TravState → Bool
  | .traversing => true
  | .reversing => true
  | .dwelling => true
  | _ => false

/-- The states in which SET FRAME, SET LINK and SET SLOT are taken and HOME is judged (R9, R35, R47, R48). -/
def TravState.settable : TravState → Bool
  | .unreferenced => true
  | .parked _ => true
  | .halted _ => true
  | _ => false

/-- The staging states (R72, R104). -/
def TravState.staging : TravState → Bool
  | .traversing => true
  | .reversing => true
  | .standardizing .ret => true
  | .positioning ⟨.toStd .ret, _, _⟩ => true
  | .positioning ⟨.toTurn _ true, _, _⟩ => true
  | _ => false

/-- The states that keep the turn point: TRAVERSING, REVERSING and a detour (R25, R28). -/
def TravState.keepsTurnPoint (t : TravState) : Bool := t.staging

/-- The states in which the move timer may run (R42). -/
def TravState.timesMove : TravState → Bool
  | .homing _ => true
  | .positioning _ => true
  | _ => false

/-- PARKED with cause BREAK, or on the way there (R155). -/
def TravState.breakPark : TravState → Bool
  | .parked .brk => true
  | .positioning ⟨.toPark .brk, _, _⟩ => true
  | _ => false

/-- What a MOTION notice tells apart (R17): state, purpose, park cause, halt cause, destination. -/
def TravState.motionKey (t : TravState) :
    Nat × Option Nat × Option ParkCause × Option HaltCause × Option CycleDest :=
  (t.code, t.purpose.map Purpose.code, t.parkCause, t.haltCause, t.destination)

/-- The states in which STD_EXPIRED is evaluated at each second of uptime (R96). -/
def TravState.measuring : TravState → Bool
  | .traversing => true
  | .reversing => true
  | .dwelling => true
  | .standardizing _ => true
  | _ => false

/-! ### Motion -/

/-- The braking distance BD(s) (R21). -/
def brakingDistance (accelStep s : Nat) : Nat := s * s / (2000 * accelStep) + s / 1000 + 1

/-- The soft-limit clamp of a target or turn point (R23, R25). -/
def FrameConfig.clamp (f : FrameConfig) (p : Int) : Int := clampInt f.travelMin f.travelMax p

/-- A distance taken in a direction: positive ahead (R21). -/
def Dir.ahead (d : Dir) (x : Int) : Int :=
  match d with
  | .fwd => x
  | .rev => -x

/-- The direction from a position toward a target; none at the target. -/
def toward (position target : Int) : Option Dir :=
  if position < target then some .fwd else if target < position then some .rev else none

/-- The turn point of a traverse in a direction, from the edge table as it stands (R25). -/
def State.turnPointFor (s : State) (d : Dir) : Int :=
  let f := s.frame
  let raw : Int :=
    match d with
    | .fwd =>
      match s.edges.high.state, s.edges.high.find with
      | .found, some (p, _) => p + f.overtravel
      | _, _ => f.travelMax
    | .rev =>
      match s.edges.low.state, s.edges.low.find with
      | .found, some (p, _) => p - f.overtravel
      | _, _ => f.travelMin
  f.clamp raw

/-! ### Blocking (R178) and readiness (R29, R37) -/

/-- Whether source i is in the blocking set: its reaction set holds PARK or HALT and it is not CLEAR. -/
def State.blocks (s : State) (i : Fin 16) : Bool :=
  (s.alarms.sets[i].park || s.alarms.sets[i].halt) && s.alarms.entries[i].state ≠ .clear

/-- Whether any source blocks. -/
def State.blocked (s : State) : Bool := (List.finRange 16).any s.blocks

/-- "Slot 0 is enabled with a curve", by the curve in force (R74). -/
def State.slot0Curve (s : State) : Bool := s.headLink.slots[0].enabled && s.conversion.curves[0].isSome

/-- The same question at a scan start, when a staged curve also counts (R74). -/
def State.slot0CurveAtStart (s : State) : Bool :=
  s.headLink.slots[0].enabled && (s.conversion.curves[0].isSome || s.conversion.staged[0].isSome)

/-- The readiness START, POINT and the resume order ask for (R37). -/
def State.ready (s : State) : Bool :=
  s.position.configured && s.boxes.layout.isSome && s.slot0Curve && s.position.reference = .referenced

/-- The readiness a scan start asks for (R29, R74). -/
def State.readyAtStart (s : State) : Bool :=
  s.position.configured && s.boxes.layout.isSome && s.slot0CurveAtStart &&
    s.position.reference = .referenced

/-- Whether an enabled slot has no accepted standardize (R95). -/
def State.lacksStandardize (s : State) : Bool :=
  (List.finRange 4).any fun k => s.headLink.slots[k].enabled && s.standardize.records[k].accepted.isNone

/-- Whether an enabled slot has a curve in force (R74, R93, R94). -/
def State.anyCurve (s : State) : Bool :=
  (List.finRange 4).any fun k => s.headLink.slots[k].enabled && s.conversion.curves[k].isSome

/-! ### Slots, windows and watches -/

/-- The slots that are enabled, as a set. -/
def State.enabledSlots (s : State) : Byte :=
  byteSet fun i => if h : i < 4 then s.headLink.slots[i].enabled else false

/-- The enabled slot of kind WATER, if there is one (R119, R161). -/
def State.waterSlot (s : State) : Option (Fin 4) :=
  (List.finRange 4).find? fun k => s.headLink.slots[k].enabled && s.headLink.slots[k].kind = .water

/-- Whether a start bit at a time in ns lies in a slot's window (R52). -/
def SlotConfig.inWindow (c : SlotConfig) (t : Nat) : Bool :=
  c.windowStart * 1000 ≤ t && t < (c.windowStart + c.windowLength) * 1000

/-- The distance in ns of a start bit from a slot's window it does not lie in (R53). -/
def SlotConfig.distance (c : SlotConfig) (t : Nat) : Nat :=
  if t < c.windowStart * 1000 then c.windowStart * 1000 - t else t - (c.windowStart + c.windowLength) * 1000

/-- Whether two windows share an instant (R48). -/
def SlotConfig.overlaps (a b : SlotConfig) : Bool :=
  a.windowStart < b.windowStart + b.windowLength && b.windowStart < a.windowStart + a.windowLength

/-- Whether a slot is in fault (R57). -/
def HeadLink.inFault (h : HeadLink) (k : Fin 4) : Bool :=
  h.slots[k].enabled && h.slots[k].errorLimit ≤ h.links[k].badCount

/-- The detail of SENSOR_FAULT: the slots in fault (R57). -/
def HeadLink.faults (h : HeadLink) : Byte := byteSet fun i => if hi : i < 4 then h.inFault ⟨i, hi⟩ else false

/-- The housekeeping entry of a slot and item; none is ABSENT (3.6). -/
def HeadLink.entry (h : HeadLink) (slot item : Nat) : Option HkEntry :=
  Table.get none h.housekeeping (16 * slot + item)

/-- Whether a watch is tripped (R62). -/
def HeadLink.tripped (h : HeadLink) (w : Fin 8) : Bool :=
  let watch := h.watches[w]
  match h.entry watch.slot watch.item with
  | none => false
  | some e =>
    watch.enabled && h.slots[watch.slot].enabled && (e.value.toNat < watch.low || watch.high < e.value.toNat)

/-- The detail of HOUSEKEEPING: the tripped watches (R62). -/
def HeadLink.trips (h : HeadLink) : Byte := byteSet fun i => if hi : i < 8 then h.tripped ⟨i, hi⟩ else false

/-- Whether any watch of a slot is tripped (R63). -/
def HeadLink.slotTripped (h : HeadLink) (k : Fin 4) : Bool :=
  (List.finRange 8).any fun w => h.tripped w && h.watches[w].slot = k

/-! ### Attribution, zones and boxes -/

/-- The history entry of a sync sequence (R14). -/
def State.lookup (s : State) (seq : Word16) : Option HistEntry :=
  s.position.history.find? fun e => e.seq = seq

/-- The entry a reading of a slot answering a sync is attributed to (R14, R111). -/
def State.attributed (s : State) (k : Fin 4) (seq : Word16) : Option HistEntry :=
  s.lookup (seq - BitVec.ofNat 16 s.headLink.slots[k].lag)

/-- Whether a position lies in an enabled presence-ignore zone in force (R78). -/
def State.presenceIgnored (s : State) (p : Int) : Bool :=
  (List.finRange 8).any fun z =>
    let zone := s.boxes.zones[z]
    zone.enabled && zone.presenceIgnore && decide ((zone.low : Int) ≤ p ∧ p ≤ zone.high)

/-- Whether a reading of a slot at a position lies in an exclusion zone (R108). -/
def State.excluded (s : State) (k : Fin 4) (p : Int) : Bool :=
  (List.finRange 8).any fun z =>
    let zone := s.boxes.zones[z]
    zone.enabled && zone.slots.getLsbD k && decide ((zone.low : Int) ≤ p ∧ p ≤ zone.high)

/-- The box of a position under a layout and a mapping; none is off-layout or UNMAPPED (R101, R102). -/
def boxOf (layout : Layout) (map : BoxMap) (p : Int) : Option Nat :=
  match map with
  | .fixed =>
    if (layout.origin : Int) ≤ p then
      let b := (p - layout.origin) / (layout.width : Int)
      if b < layout.boxes then some b.toNat else none
    else none
  | .edges low high =>
    if low ≤ p ∧ p ≤ high then
      some (min (layout.boxes - 1) (((p - low) * layout.boxes) / (high - low)).toNat)
    else none
  | .unmapped => none

/-! ### The link -/

/-- R186: a request may be dispatched when the dispatch slot is empty and no readout is in flight. -/
def State.canDispatch (s : State) : Bool := s.link.slot.isNone && s.link.readout.isNone

end Sys2Proof.Machine
end

