-- ==== Sys2Proof/Machine/Operands.lean ====
section
/-! DEFINITION. The bodies of the requests of Table 11-11: their bytes, the body read from its bytes, the
check of their fields by the owner's ranges, and the body of a configuration in force (R193). -/

namespace Sys2Proof

open Machine

/-- n bytes of a message field. -/
def Machine.fieldBytes {w : Nat} (n : Nat) (x : BitVec w) : List Byte := leBytes n x.toNat

/-- A field of a body read at an offset. -/
def Machine.readField (w : Nat) (body : List Byte) (offset n : Nat) : BitVec w := BitVec.ofNat w (fieldAt body offset n)

/-- Whether a number lies within a range. -/
def Machine.within (lo hi x : Nat) : Bool := lo ≤ x && x ≤ hi

/-! ### SET FRAME -/

/-- The 46 bytes of a SET FRAME body. -/
def FrameBody.bytes (b : FrameBody) : List Byte :=
  fieldBytes 4 b.travelMin ++ fieldBytes 4 b.travelMax ++ fieldBytes 4 b.homePosition ++
  fieldBytes 2 b.indexTolerance ++ fieldBytes 4 b.parkPosition ++ fieldBytes 4 b.stdPosition ++
  fieldBytes 1 b.encDir ++ fieldBytes 2 b.vFull ++ fieldBytes 2 b.scanSpeed ++ fieldBytes 2 b.moveSpeed ++
  fieldBytes 2 b.homingSpeed ++ fieldBytes 2 b.creepSpeed ++ fieldBytes 2 b.accelStep ++
  fieldBytes 1 b.arriveTolerance ++ fieldBytes 2 b.overtravel ++ fieldBytes 2 b.reverseDwell ++
  fieldBytes 2 b.stallSpeed ++ fieldBytes 2 b.stallTime ++ fieldBytes 2 b.moveTimeout

/-- The SET FRAME body of 46 bytes. -/
def FrameBody.ofBytes (body : List Byte) : FrameBody where
  travelMin := readField 32 body 0 4
  travelMax := readField 32 body 4 4
  homePosition := readField 32 body 8 4
  indexTolerance := readField 16 body 12 2
  parkPosition := readField 32 body 14 4
  stdPosition := readField 32 body 18 4
  encDir := readField 8 body 22 1
  vFull := readField 16 body 23 2
  scanSpeed := readField 16 body 25 2
  moveSpeed := readField 16 body 27 2
  homingSpeed := readField 16 body 29 2
  creepSpeed := readField 16 body 31 2
  accelStep := readField 16 body 33 2
  arriveTolerance := readField 8 body 35 1
  overtravel := readField 16 body 36 2
  reverseDwell := readField 16 body 38 2
  stallSpeed := readField 16 body 40 2
  stallTime := readField 16 body 42 2
  moveTimeout := readField 16 body 44 2

/-- enc_dir of a body; none if the byte is beyond its list (R196). -/
def Machine.readEncSense (b : Byte) : Option EncSense :=
  if b = 0 then some .normal else if b = 1 then some .reversed else none

/-- The geometry checks of R10. -/
def Machine.FrameConfig.geometryValid (f : FrameConfig) : Bool :=
  within 0 150000 f.travelMin && within 0 150000 f.travelMax && decide (f.travelMin + 1000 ≤ f.travelMax) &&
  within 0 150000 f.homePosition && within 1 1000 f.indexTolerance &&
  within f.travelMin f.travelMax f.parkPosition && within f.travelMin f.travelMax f.stdPosition

/-- The motion checks of R44. -/
def Machine.FrameConfig.motionValid (f : FrameConfig) : Bool :=
  within 1000 60000 f.vFull && within 100 50000 f.scanSpeed && within 100 50000 f.moveSpeed &&
  within 100 10000 f.homingSpeed && within 10 1000 f.creepSpeed && within 1 1000 f.accelStep &&
  within 1 100 f.arriveTolerance && within 0 20000 f.overtravel && within 0 1000 f.reverseDwell &&
  within 10 50000 f.stallSpeed && within 50 5000 f.stallTime && within 1 600 f.moveTimeout &&
  decide (f.scanSpeed ≤ f.vFull) && decide (f.moveSpeed ≤ f.vFull) && decide (f.homingSpeed ≤ f.vFull) &&
  decide (f.creepSpeed ≤ f.homingSpeed) && decide (f.creepSpeed ≤ f.moveSpeed) &&
  decide (brakingDistance f.accelStep f.scanSpeed ≤ f.overtravel)

/-- The frame configuration a body asks for, if it passes R10 and R44. -/
def FrameBody.check (b : FrameBody) : Option FrameConfig :=
  match readEncSense b.encDir with
  | none => none
  | some sense =>
    let f : FrameConfig :=
      { travelMin := b.travelMin.toNat, travelMax := b.travelMax.toNat, homePosition := b.homePosition.toNat,
        indexTolerance := b.indexTolerance.toNat, parkPosition := b.parkPosition.toNat,
        stdPosition := b.stdPosition.toNat, encDir := sense, vFull := b.vFull.toNat,
        scanSpeed := b.scanSpeed.toNat, moveSpeed := b.moveSpeed.toNat, homingSpeed := b.homingSpeed.toNat,
        creepSpeed := b.creepSpeed.toNat, accelStep := b.accelStep.toNat,
        arriveTolerance := b.arriveTolerance.toNat, overtravel := b.overtravel.toNat,
        reverseDwell := b.reverseDwell.toNat, stallSpeed := b.stallSpeed.toNat,
        stallTime := b.stallTime.toNat, moveTimeout := b.moveTimeout.toNat }
    if f.geometryValid && f.motionValid then some f else none

/-- The SET FRAME body of the configuration in force (R193). -/
def Machine.FrameConfig.body (f : FrameConfig) : FrameBody where
  travelMin := BitVec.ofNat 32 f.travelMin
  travelMax := BitVec.ofNat 32 f.travelMax
  homePosition := BitVec.ofNat 32 f.homePosition
  indexTolerance := BitVec.ofNat 16 f.indexTolerance
  parkPosition := BitVec.ofNat 32 f.parkPosition
  stdPosition := BitVec.ofNat 32 f.stdPosition
  encDir := BitVec.ofNat 8 f.encDir.code
  vFull := BitVec.ofNat 16 f.vFull
  scanSpeed := BitVec.ofNat 16 f.scanSpeed
  moveSpeed := BitVec.ofNat 16 f.moveSpeed
  homingSpeed := BitVec.ofNat 16 f.homingSpeed
  creepSpeed := BitVec.ofNat 16 f.creepSpeed
  accelStep := BitVec.ofNat 16 f.accelStep
  arriveTolerance := BitVec.ofNat 8 f.arriveTolerance
  overtravel := BitVec.ofNat 16 f.overtravel
  reverseDwell := BitVec.ofNat 16 f.reverseDwell
  stallSpeed := BitVec.ofNat 16 f.stallSpeed
  stallTime := BitVec.ofNat 16 f.stallTime
  moveTimeout := BitVec.ofNat 16 f.moveTimeout

/-! ### SET LINK -/

/-- A sample period that is none (0) or within its range and step (R47); the outer none is invalid. -/
def Machine.readPeriod (p : Word16) : Option (Option Nat) :=
  if p = 0 then some none
  else if within 250 4000 p.toNat && p.toNat % 50 = 0 then some (some p.toNat) else none

/-- The bytes of a sample period, 0 for none. -/
def Machine.periodBytes (p : Option Nat) : List Byte := leBytes 2 (p.getD 0)

/-! ### SET SLOT -/

/-- The 9 bytes of a SET SLOT body. -/
def SlotBody.bytes (b : SlotBody) : List Byte :=
  fieldBytes 1 b.slot ++ fieldBytes 1 b.enabled ++ fieldBytes 1 b.kind ++ fieldBytes 2 b.windowStart ++
  fieldBytes 2 b.windowLength ++ fieldBytes 1 b.lag ++ fieldBytes 1 b.errorLimit

/-- The SET SLOT body of 9 bytes. -/
def SlotBody.ofBytes (body : List Byte) : SlotBody where
  slot := readField 8 body 0 1
  enabled := readField 8 body 1 1
  kind := readField 8 body 2 1
  windowStart := readField 16 body 3 2
  windowLength := readField 16 body 5 2
  lag := readField 8 body 7 1
  errorLimit := readField 8 body 8 1

/-- A slot kind byte. -/
def Machine.readKind (b : Byte) : Option SlotKind :=
  if b = 0 then some .weight else if b = 1 then some .water
  else if b = 2 then some .caliper else if b = 3 then some .aux else none

/-- A slot number byte. -/
def Machine.readSlot (b : Byte) : Option (Fin 4) := if h : b.toNat < 4 then some ⟨b.toNat, h⟩ else none

/-- The slot and its fields a body names, if each lies in its range (R48, items 1 and 2). -/
def SlotBody.check (b : SlotBody) : Option (Fin 4 × SlotConfig) :=
  match readSlot b.slot, readFlag b.enabled, readKind b.kind with
  | some k, some enabled, some kind =>
    let c : SlotConfig :=
      { enabled := enabled, kind := kind, windowStart := b.windowStart.toNat,
        windowLength := b.windowLength.toNat, lag := b.lag.toNat, errorLimit := b.errorLimit.toNat }
    if within 0 3979 c.windowStart && within 10 3980 c.windowLength && within 0 15 c.lag &&
        within 1 255 c.errorLimit && decide (k = 0 ↔ kind = .weight) then some (k, c) else none
  | _, _, _ => none

/-- The SET SLOT body of a slot in force (R193). -/
def Machine.SlotConfig.body (k : Fin 4) (c : SlotConfig) : SlotBody where
  slot := BitVec.ofNat 8 k
  enabled := flagByte c.enabled
  kind := BitVec.ofNat 8 c.kind.code
  windowStart := BitVec.ofNat 16 c.windowStart
  windowLength := BitVec.ofNat 16 c.windowLength
  lag := BitVec.ofNat 8 c.lag
  errorLimit := BitVec.ofNat 8 c.errorLimit

/-! ### SET CURVE -/

/-- The 5 bytes of a breakpoint. -/
def Breakpoint.bytes (p : Breakpoint) : List Byte := fieldBytes 2 p.x ++ fieldBytes 3 p.y

/-- The 2 + 5n bytes of a SET CURVE body. -/
def CurveBody.bytes (b : CurveBody) : List Byte :=
  fieldBytes 1 b.slot ++ [BitVec.ofNat 8 b.points.length] ++ b.points.flatMap Breakpoint.bytes

/-- n breakpoints read from a body. -/
def Machine.readPoints : Nat → List Byte → List Breakpoint
  | 0, _ => []
  | n + 1, bytes =>
    { x := readField 16 bytes 0 2, y := readField 24 bytes 2 3 } :: readPoints n (bytes.drop 5)

/-- The number n a SET CURVE body carries. -/
def Machine.curveCount (body : List Byte) : Nat := fieldAt body 1 1

/-- The SET CURVE body of 2 + 5n bytes. -/
def CurveBody.ofBytes (body : List Byte) : CurveBody where
  slot := readField 8 body 0 1
  points := readPoints (curveCount body) (body.drop 2)

/-- x strictly rising (R71). -/
def Machine.risingX : Curve → Bool
  | (x, _) :: (x', y') :: rest => decide (x < x') && risingX ((x', y') :: rest)
  | _ => true

/-- y within the engineering range (R71). -/
def Machine.yInRange (y : Int) : Bool := decide (-4194304 ≤ y ∧ y ≤ 4194303)

/-- The slot and the curve a body names, if it passes R71; x lies in its range by the two bytes it is sent in. -/
def CurveBody.check (b : CurveBody) : Option (Fin 4 × Curve) :=
  let curve : Curve := b.points.map fun p => (p.x.toNat, p.y.toInt)
  match readSlot b.slot with
  | none => none
  | some k =>
    if within 2 16 curve.length && risingX curve && curve.all (fun p => yInRange p.2) then some (k, curve) else none

/-- The SET CURVE body of a slot's curve; an absent curve is sent as its slot and n = 0 (Table 11-9). -/
def Machine.curveBody (k : Fin 4) (c : Option Curve) : CurveBody where
  slot := BitVec.ofNat 8 k
  points := (c.getD []).map fun p => { x := BitVec.ofNat 16 p.1, y := BitVec.ofInt 24 p.2 }

/-! ### SET STD -/

/-- The per-slot fields of a SET STD body. -/
def StdSlotBody.bytes (b : StdSlotBody) : List Byte := fieldBytes 2 b.minSpan ++ fieldBytes 2 b.driftLimit

/-- The 32 bytes of a SET STD body. -/
def StdBody.bytes (b : StdBody) : List Byte :=
  fieldBytes 2 b.intervalScans ++ fieldBytes 2 b.darkSettle ++ fieldBytes 2 b.nDark ++
  fieldBytes 2 b.refSettle ++ fieldBytes 2 b.nRef ++ fieldBytes 2 b.stdTimeout ++ fieldBytes 4 b.maxAge ++
  b.slot0.bytes ++ b.slot1.bytes ++ b.slot2.bytes ++ b.slot3.bytes

/-- The per-slot fields at an offset. -/
def StdSlotBody.ofBytes (body : List Byte) (offset : Nat) : StdSlotBody where
  minSpan := readField 16 body offset 2
  driftLimit := readField 16 body (offset + 2) 2

/-- The SET STD body of 32 bytes. -/
def StdBody.ofBytes (body : List Byte) : StdBody where
  intervalScans := readField 16 body 0 2
  darkSettle := readField 16 body 2 2
  nDark := readField 16 body 4 2
  refSettle := readField 16 body 6 2
  nRef := readField 16 body 8 2
  stdTimeout := readField 16 body 10 2
  maxAge := readField 32 body 12 4
  slot0 := StdSlotBody.ofBytes body 16
  slot1 := StdSlotBody.ofBytes body 20
  slot2 := StdSlotBody.ofBytes body 24
  slot3 := StdSlotBody.ofBytes body 28

/-- The settings a body asks for, if it passes R83. -/
def StdBody.check (b : StdBody) : Option StdSettings :=
  let t : StdSettings :=
    { intervalScans := b.intervalScans.toNat, darkSettle := b.darkSettle.toNat, nDark := b.nDark.toNat,
      refSettle := b.refSettle.toNat, nRef := b.nRef.toNat, stdTimeout := b.stdTimeout.toNat,
      maxAge := b.maxAge.toNat,
      minSpan := #v[b.slot0.minSpan.toNat, b.slot1.minSpan.toNat, b.slot2.minSpan.toNat,
        b.slot3.minSpan.toNat],
      driftLimit := #v[b.slot0.driftLimit.toNat, b.slot1.driftLimit.toNat, b.slot2.driftLimit.toNat,
        b.slot3.driftLimit.toNat] }
  if within 0 10000 t.intervalScans && within 0 10000 t.darkSettle && within 1 4000 t.nDark &&
      within 0 10000 t.refSettle && within 1 4000 t.nRef && within 1 600 t.stdTimeout &&
      within 60 86400 t.maxAge &&
      (List.finRange 4).all (fun k => within 1 65535 t.minSpan[k] && within 1 1000 t.driftLimit[k]) &&
      decide (t.darkSettle + t.refSettle < t.stdTimeout * 1000) then some t else none

/-- The SET STD body of the settings in force (R193). -/
def Machine.StdSettings.body (t : StdSettings) : StdBody where
  intervalScans := BitVec.ofNat 16 t.intervalScans
  darkSettle := BitVec.ofNat 16 t.darkSettle
  nDark := BitVec.ofNat 16 t.nDark
  refSettle := BitVec.ofNat 16 t.refSettle
  nRef := BitVec.ofNat 16 t.nRef
  stdTimeout := BitVec.ofNat 16 t.stdTimeout
  maxAge := BitVec.ofNat 32 t.maxAge
  slot0 := ⟨BitVec.ofNat 16 t.minSpan[0], BitVec.ofNat 16 t.driftLimit[0]⟩
  slot1 := ⟨BitVec.ofNat 16 t.minSpan[1], BitVec.ofNat 16 t.driftLimit[1]⟩
  slot2 := ⟨BitVec.ofNat 16 t.minSpan[2], BitVec.ofNat 16 t.driftLimit[2]⟩
  slot3 := ⟨BitVec.ofNat 16 t.minSpan[3], BitVec.ofNat 16 t.driftLimit[3]⟩

/-! ### SET LAYOUT -/

/-- The 9 bytes of a SET LAYOUT body. -/
def LayoutBody.bytes (b : LayoutBody) : List Byte :=
  fieldBytes 1 b.mode ++ fieldBytes 2 b.boxes ++ fieldBytes 4 b.origin ++ fieldBytes 2 b.width

/-- The SET LAYOUT body of 9 bytes. -/
def LayoutBody.ofBytes (body : List Byte) : LayoutBody where
  mode := readField 8 body 0 1
  boxes := readField 16 body 1 2
  origin := readField 32 body 3 4
  width := readField 16 body 7 2

/-- The layout a body asks for, if it passes R103; EDGE mode holds origin and width as 0. -/
def LayoutBody.check (b : LayoutBody) : Option Layout :=
  if !within 1 Config.maxBoxes b.boxes.toNat then none
  else if b.mode = 0 then
    if within 0 150000 b.origin.toNat && within 10 10000 b.width.toNat &&
        decide (b.origin.toNat + b.boxes.toNat * b.width.toNat ≤ 150000) then
      some { mode := .fixed, boxes := b.boxes.toNat, origin := b.origin.toNat, width := b.width.toNat }
    else none
  else if b.mode = 1 then some { mode := .edge, boxes := b.boxes.toNat, origin := 0, width := 0 }
  else none

/-- The SET LAYOUT body of a layout (R193). -/
def Machine.Layout.body (l : Layout) : LayoutBody where
  mode := BitVec.ofNat 8 l.mode.code
  boxes := BitVec.ofNat 16 l.boxes
  origin := BitVec.ofNat 32 l.origin
  width := BitVec.ofNat 16 l.width

/-! ### SET ZONE -/

/-- The 12 bytes of a SET ZONE body. -/
def ZoneBody.bytes (b : ZoneBody) : List Byte :=
  fieldBytes 1 b.zone ++ fieldBytes 1 b.enabled ++ fieldBytes 4 b.low ++ fieldBytes 4 b.high ++
  fieldBytes 1 b.slots ++ fieldBytes 1 b.presenceIgnore

/-- The SET ZONE body of 12 bytes. -/
def ZoneBody.ofBytes (body : List Byte) : ZoneBody where
  zone := readField 8 body 0 1
  enabled := readField 8 body 1 1
  low := readField 32 body 2 4
  high := readField 32 body 6 4
  slots := readField 8 body 10 1
  presenceIgnore := readField 8 body 11 1

/-- The zone and the fields a body names, if it passes R106. A set with a bit beyond slot 3 is out of range
(log entry 26). -/
def ZoneBody.check (b : ZoneBody) : Option (Fin 8 × Zone) :=
  if h : b.zone.toNat < 8 then
    match readFlag b.enabled, readFlag b.presenceIgnore with
    | some enabled, some ignore =>
      let z : Zone :=
        { enabled := enabled, low := b.low.toNat, high := b.high.toNat, slots := b.slots,
          presenceIgnore := ignore }
      if within 0 150000 z.low && within 0 150000 z.high && decide (z.low ≤ z.high) &&
          decide (b.slots.toNat < 16) then some (⟨b.zone.toNat, h⟩, z) else none
    | _, _ => none
  else none

/-- The SET ZONE body of a zone (R193). -/
def Machine.Zone.body (k : Fin 8) (z : Zone) : ZoneBody where
  zone := BitVec.ofNat 8 k
  enabled := flagByte z.enabled
  low := BitVec.ofNat 32 z.low
  high := BitVec.ofNat 32 z.high
  slots := z.slots
  presenceIgnore := flagByte z.presenceIgnore

/-! ### SET FILTER -/

/-- One channel's 5 bytes. -/
def ChannelFilterBody.bytes (b : ChannelFilterBody) : List Byte :=
  fieldBytes 1 b.k ++ fieldBytes 1 b.minCount ++ fieldBytes 2 b.minValid ++ fieldBytes 1 b.staleLimit

/-- The 25 bytes of a SET FILTER body. -/
def FilterBody.bytes (b : FilterBody) : List Byte :=
  b.ch0.bytes ++ b.ch1.bytes ++ b.ch2.bytes ++ b.ch3.bytes ++ b.ch4.bytes

/-- One channel's fields at an offset. -/
def ChannelFilterBody.ofBytes (body : List Byte) (offset : Nat) : ChannelFilterBody where
  k := readField 8 body offset 1
  minCount := readField 8 body (offset + 1) 1
  minValid := readField 16 body (offset + 2) 2
  staleLimit := readField 8 body (offset + 4) 1

/-- The SET FILTER body of 25 bytes. -/
def FilterBody.ofBytes (body : List Byte) : FilterBody where
  ch0 := ChannelFilterBody.ofBytes body 0
  ch1 := ChannelFilterBody.ofBytes body 5
  ch2 := ChannelFilterBody.ofBytes body 10
  ch3 := ChannelFilterBody.ofBytes body 15
  ch4 := ChannelFilterBody.ofBytes body 20

/-- One channel's settings as applied: k held to 7, min_count 0 taken as 1 (R130). -/
def ChannelFilterBody.applied (b : ChannelFilterBody) : FilterSettings where
  k := min 7 b.k.toNat
  minCount := max 1 b.minCount.toNat
  minValid := b.minValid.toNat
  staleLimit := b.staleLimit.toNat

/-- Whether one channel's min_valid and stale_limit lie in their ranges (R130). -/
def ChannelFilterBody.valid (b : ChannelFilterBody) : Bool :=
  within 1 Config.maxBoxes b.minValid.toNat && within 1 255 b.staleLimit.toNat

/-- The settings a body asks for, if it passes R130. -/
def FilterBody.check (b : FilterBody) : Option (Vector FilterSettings 5) :=
  if b.ch0.valid && b.ch1.valid && b.ch2.valid && b.ch3.valid && b.ch4.valid then
    some #v[b.ch0.applied, b.ch1.applied, b.ch2.applied, b.ch3.applied,
      { b.ch4.applied with minCount := 1 }]
  else none

/-- One channel's fields in force. -/
def Machine.FilterSettings.body (t : FilterSettings) (minCount : Byte) : ChannelFilterBody where
  k := BitVec.ofNat 8 t.k
  minCount := minCount
  minValid := BitVec.ofNat 16 t.minValid
  staleLimit := BitVec.ofNat 8 t.staleLimit

/-- The SET FILTER body of the settings in force (R130, R193). The min_count byte of channel 4, which the
spec leaves unstated, is the argument. -/
def Machine.filterBody (t : Vector FilterSettings 5) (channel4MinCount : Byte) : FilterBody where
  ch0 := t[0].body (BitVec.ofNat 8 t[0].minCount)
  ch1 := t[1].body (BitVec.ofNat 8 t[1].minCount)
  ch2 := t[2].body (BitVec.ofNat 8 t[2].minCount)
  ch3 := t[3].body (BitVec.ofNat 8 t[3].minCount)
  ch4 := t[4].body channel4MinCount

/-! ### SET SHEET -/

/-- The 22 bytes of a SET SHEET body. -/
def SheetBody.bytes (b : SheetBody) : List Byte :=
  fieldBytes 2 b.presenceThreshold ++ fieldBytes 2 b.absenceThreshold ++ fieldBytes 2 b.edgeRun ++
  fieldBytes 4 b.edgeShiftLimit ++ fieldBytes 2 b.interiorMargin ++ fieldBytes 2 b.holeRun ++
  fieldBytes 2 b.breakRun ++ fieldBytes 2 b.breakDebounce ++ fieldBytes 2 b.breakHoldoff ++
  fieldBytes 1 b.autoresume ++ fieldBytes 1 b.resumeLimit

/-- The SET SHEET body of 22 bytes. -/
def SheetBody.ofBytes (body : List Byte) : SheetBody where
  presenceThreshold := readField 16 body 0 2
  absenceThreshold := readField 16 body 2 2
  edgeRun := readField 16 body 4 2
  edgeShiftLimit := readField 32 body 6 4
  interiorMargin := readField 16 body 10 2
  holeRun := readField 16 body 12 2
  breakRun := readField 16 body 14 2
  breakDebounce := readField 16 body 16 2
  breakHoldoff := readField 16 body 18 2
  autoresume := readField 8 body 20 1
  resumeLimit := readField 8 body 21 1

/-- The two thresholds and the other sheet settings a body asks for, if it passes R76 and R143. -/
def SheetBody.check (b : SheetBody) : Option (Nat × Nat × SheetSettings) :=
  match readFlag b.autoresume with
  | none => none
  | some resume =>
    let t : SheetSettings :=
      { edgeRun := b.edgeRun.toNat, edgeShiftLimit := b.edgeShiftLimit.toNat,
        interiorMargin := b.interiorMargin.toNat, holeRun := b.holeRun.toNat, breakRun := b.breakRun.toNat,
        breakDebounce := b.breakDebounce.toNat, breakHoldoff := b.breakHoldoff.toNat, autoresume := resume,
        resumeLimit := b.resumeLimit.toNat }
    if decide (b.presenceThreshold.toNat < b.absenceThreshold.toNat) && within 1 1000 t.edgeRun &&
        within 1 150000 t.edgeShiftLimit && within 0 20000 t.interiorMargin && within 1 65534 t.holeRun &&
        within (t.holeRun + 1) 65535 t.breakRun && within 1 5000 t.breakDebounce &&
        within 1 3600 t.breakHoldoff && within 0 7 t.resumeLimit then
      some (b.presenceThreshold.toNat, b.absenceThreshold.toNat, t)
    else none

/-- The SET SHEET body of the settings in force (R193). -/
def Machine.SheetSettings.body (presence absence : Nat) (t : SheetSettings) : SheetBody where
  presenceThreshold := BitVec.ofNat 16 presence
  absenceThreshold := BitVec.ofNat 16 absence
  edgeRun := BitVec.ofNat 16 t.edgeRun
  edgeShiftLimit := BitVec.ofNat 32 t.edgeShiftLimit
  interiorMargin := BitVec.ofNat 16 t.interiorMargin
  holeRun := BitVec.ofNat 16 t.holeRun
  breakRun := BitVec.ofNat 16 t.breakRun
  breakDebounce := BitVec.ofNat 16 t.breakDebounce
  breakHoldoff := BitVec.ofNat 16 t.breakHoldoff
  autoresume := flagByte t.autoresume
  resumeLimit := BitVec.ofNat 8 t.resumeLimit

/-! ### SET WATCH -/

/-- The 6 bytes of a SET WATCH body. -/
def WatchBody.bytes (b : WatchBody) : List Byte :=
  [b.watch, b.enabled, b.slot, b.item, b.low, b.high]

/-- The SET WATCH body of 6 bytes. -/
def WatchBody.ofBytes (body : List Byte) : WatchBody where
  watch := readField 8 body 0 1
  enabled := readField 8 body 1 1
  slot := readField 8 body 2 1
  item := readField 8 body 3 1
  low := readField 8 body 4 1
  high := readField 8 body 5 1

/-- The watch and the fields a body names, if it passes R61. -/
def WatchBody.check (b : WatchBody) : Option (Fin 8 × Watch) :=
  if h : b.watch.toNat < 8 ∧ b.item.toNat < 16 then
    match readFlag b.enabled, readSlot b.slot with
    | some enabled, some slot =>
      if b.low.toNat ≤ b.high.toNat then
        some (⟨b.watch.toNat, h.1⟩,
          { enabled := enabled, slot := slot, item := ⟨b.item.toNat, h.2⟩, low := b.low.toNat,
            high := b.high.toNat })
      else none
    | _, _ => none
  else none

/-- The SET WATCH body of a watch (R193). -/
def Machine.Watch.body (k : Fin 8) (w : Watch) : WatchBody where
  watch := BitVec.ofNat 8 k
  enabled := flagByte w.enabled
  slot := BitVec.ofNat 8 w.slot
  item := BitVec.ofNat 8 w.item
  low := BitVec.ofNat 8 w.low
  high := BitVec.ofNat 8 w.high

/-! ### SET ALARM, SET NOTICES -/

/-- A reaction set as its byte: REPORT bit 0, PARK bit 1, HALT bit 2, LINE bit 3 (11.9). -/
def Machine.Reactions.byte (r : Reactions) : Byte :=
  flagByte r.report ||| (flagByte r.park <<< 1) ||| (flagByte r.halt <<< 2) ||| (flagByte r.line <<< 3)

/-- The reaction set of a byte; none if a bit beyond the four is set (log entry 26). -/
def Machine.readReactions (b : Byte) : Option Reactions :=
  if b.toNat < 16 then some ⟨b.getLsbD 0, b.getLsbD 1, b.getLsbD 2, b.getLsbD 3⟩ else none

/-- A source number byte. -/
def Machine.readSource (b : Byte) : Option (Fin 16) := if h : b.toNat < 16 then some ⟨b.toNat, h⟩ else none

/-- Whether HALT is a fixed part of a source's reactions (Table 10-1). -/
def Machine.haltFixed (i : Fin 16) : Bool := i = 8 || i = 9 || i = 10 || i = 11 || i = 15

/-- Whether LINE is not permitted for a source (Table 10-1). -/
def Machine.lineForbidden (i : Fin 16) : Bool := i = 13

/-- The fixed part of a source as its byte (11.9). -/
def Machine.fixedByte (i : Fin 16) : Byte := Reactions.byte ⟨false, false, haltFixed i, lineForbidden i⟩

/-- The notice mask as its byte: ALARM bit 0, SCAN bit 1, MOTION bit 2, STD bit 3 (11.9). -/
def Machine.NoticeMask.byte (m : NoticeMask) : Byte :=
  flagByte m.alarm ||| (flagByte m.scan <<< 1) ||| (flagByte m.motion <<< 2) ||| (flagByte m.std <<< 3)

/-- The notice mask of a byte; none if any other bit is set (R190). -/
def Machine.readMask (b : Byte) : Option NoticeMask :=
  if b.toNat < 16 then some ⟨b.getLsbD 0, b.getLsbD 1, b.getLsbD 2, b.getLsbD 3⟩ else none

end Sys2Proof
end

