-- ==== Sys2Proof/Machine/Alarms.lean ====
section
/-! DEFINITION. The notice queue (R189) and the Alarm Unit's shared operations: an occurrence (R168), the
reports of a condition (R169) and of an event (R170), REPORT (R172), the claims (R173), the alarm line
(R174) and its readback (R175), acknowledgement (R176). A block changes an alarm entry through these
alone. -/

namespace Sys2Proof.Machine

/-! ### The notice queue -/

/-- Whether notices of a key's kind are enabled (R190). -/
def NoticeMask.enables (m : NoticeMask) : NoticeKey → Bool
  | .alarm _ => m.alarm
  | .scan => m.scan
  | .motion => m.motion
  | .std => m.std

/-- The queue with a notice posted: one of the same key is refreshed in its place, else the notice joins
the newest end (R189). -/
def joinNotice (key : NoticeKey) (body : List Byte) (eventNo : Nat) : List QueuedNotice → List QueuedNotice
  | [] => [{ key := key, body := body, joined := eventNo }]
  | n :: rest => if n.key = key then { n with body := body } :: rest else n :: joinNotice key body eventNo rest

/-- A block posts a notice; it is dropped if its kind is not enabled (R189). -/
def postNotice (key : NoticeKey) (body : List Byte) (s : State) : State :=
  if s.link.mask.enables key then
    s.setLink { s.link with notices := joinNotice key body s.link.eventNo s.link.notices }
  else s

/-- The body of a MOTION notice (R17, Table 11-7). -/
def State.motionBody (s : State) : List Byte :=
  let t := s.traverse
  [BitVec.ofNat 8 t.state.code, BitVec.ofNat 8 t.state.qualifier, BitVec.ofNat 8 t.state.destinationCode,
    BitVec.ofNat 8 t.scanDir.code] ++ leInt 4 s.counter ++ [BitVec.ofNat 8 s.position.reference.code] ++
  leBytes 4 (if t.state = .traversing then t.runningScan.getD 0 else 0) ++
  [BitVec.ofNat 8 t.state.parkCauseCode]

/-- The Traverse Controller posts its MOTION notice (R17). -/
def postMotion (s : State) : State := postNotice .motion s.motionBody s

/-! ### The content of an entry on the line -/

/-- The fields of an alarm detail (Table 11-8), before zero-filling. An index error that does not fit its field is sent
as a free value (log entry 47). -/
def Detail.fields : Detail → List Byte
  | .position p => leInt 4 p
  | .hole p length => leInt 4 p ++ leBytes 2 length
  | .set members => [members]
  | .stall p speed state => leInt 4 p ++ leBytes 2 speed ++ [BitVec.ofNat 8 state.code]
  | .lines lo hi => [flagByte lo ||| (flagByte hi <<< 1)]
  | .transition p => [0] ++ leInt 4 p
  | .indexError p error => [1] ++ leInt 4 p ++ signedField 4 error
  | .levels out sense => [flagByte out, flagByte sense]
  | .edgeShift high old new => [flagByte high] ++ leInt 4 old ++ leInt 4 new
  | .moveTimeout state p =>
    [BitVec.ofNat 8 state.code, BitVec.ofNat 8 ((state.purpose.map Purpose.code).getD 0)] ++
    leInt 4 (match state with | .positioning m => m.target | _ => 0) ++ leInt 4 p

/-- The ten zero-filled bytes of a detail (Table 11-8). -/
def detailBytes (d : Option Detail) : List Byte :=
  (((d.map Detail.fields).getD []) ++ List.replicate 10 0).take 10

/-- The 26 bytes of an alarm entry (Table 11-7). -/
def alarmBody (i : Fin 16) (e : AlarmEntry) : List Byte :=
  [BitVec.ofNat 8 i, BitVec.ofNat 8 e.state.code, BitVec.ofNat 8 e.count] ++
  (match e.episode with
   | none => [0] ++ List.replicate 12 0 ++ detailBytes none
   | some p =>
     [1#8 ||| (flagByte p.drill <<< 1)] ++ fieldBytes 4 p.firstUptime ++ leBytes 4 (p.firstScan.getD 0) ++
     fieldBytes 4 p.lastUptime ++ detailBytes p.detail)

/-! ### Entries -/

/-- One entry replaced. -/
def setEntry (i : Fin 16) (e : AlarmEntry) (s : State) : State :=
  s.setAlarms { s.alarms with entries := s.alarms.entries.set i e }

/-- REPORT: the ALARM notice of a source is posted if REPORT is in its reaction set now (R172). -/
def reportEntry (i : Fin 16) (s : State) : State :=
  if s.alarms.sets[i].report then postNotice (.alarm i) (alarmBody i s.alarms.entries[i]) s else s

/-- One entry replaced and, by REPORT, its notice posted. -/
def changeEntry (i : Fin 16) (e : AlarmEntry) (s : State) : State := reportEntry i (setEntry i e s)

/-- The entry after the end of its condition: ACTIVE becomes LATCHED, ACTIVE_ACKED becomes CLEAR (R169); an
entry that becomes CLEAR loses its line mark (R174). -/
def AlarmEntry.ended (e : AlarmEntry) : AlarmEntry :=
  match e.state with
  | .active => { e with state := .latched }
  | .activeAcked => { e with state := .clear, lineMark := false }
  | _ => e

/-- An entry with its detail replaced; the count and the last occurrence stand (R169). -/
def AlarmEntry.withDetail (e : AlarmEntry) (d : Detail) : AlarmEntry :=
  match e.state with
  | .active | .activeAcked => { e with episode := e.episode.map fun p => { p with detail := some d } }
  | _ => e

/-- The number of a source (Table 10-1). -/
abbrev srcSheetBreak : Fin 16 := 0
/-- Source 1 of Table 10-1. -/
abbrev srcSheetLost : Fin 16 := 1
/-- Source 2 of Table 10-1. -/
abbrev srcHole : Fin 16 := 2
/-- Source 3 of Table 10-1. -/
abbrev srcProfileThin : Fin 16 := 3
/-- Source 4 of Table 10-1. -/
abbrev srcSensorFault : Fin 16 := 4
/-- Source 5 of Table 10-1. -/
abbrev srcHousekeeping : Fin 16 := 5
/-- Source 6 of Table 10-1. -/
abbrev srcStdRejected : Fin 16 := 6
/-- Source 7 of Table 10-1. -/
abbrev srcStdExpired : Fin 16 := 7
/-- Source 8 of Table 10-1. -/
abbrev srcDriveFault : Fin 16 := 8
/-- Source 9 of Table 10-1. -/
abbrev srcStall : Fin 16 := 9
/-- Source 10 of Table 10-1. -/
abbrev srcLimit : Fin 16 := 10
/-- Source 11 of Table 10-1. -/
abbrev srcEncoder : Fin 16 := 11
/-- Source 12 of Table 10-1. -/
abbrev srcHomeFailed : Fin 16 := 12
/-- Source 13 of Table 10-1. -/
abbrev srcLineCheck : Fin 16 := 13
/-- Source 14 of Table 10-1. -/
abbrev srcEdgeShift : Fin 16 := 14
/-- Source 15 of Table 10-1. -/
abbrev srcMoveTimeout : Fin 16 := 15

/-! ### The alarm line and its readback -/

/-- The comparison of ALARM_SENSE with ALARM_OUT at a change of either level (R175): while LINE_CHECK
stands, agreement ends it and a change that leaves a difference is a change of detail; otherwise a
difference starts the timer if it does not run, and agreement stops it. -/
def judgeReadback (s : State) : State :=
  let a := s.alarms
  match a.lineCheck with
  | some levels =>
    if a.alarmOut = a.alarmSense then
      changeEntry srcLineCheck a.entries[srcLineCheck].ended (s.setAlarms { a with lineCheck := none })
    else if levels = (a.alarmOut, a.alarmSense) then s
    else
      changeEntry srcLineCheck
        (a.entries[srcLineCheck].withDetail (.levels a.alarmOut a.alarmSense))
        (s.setAlarms { a with lineCheck := some (a.alarmOut, a.alarmSense) })
  | none =>
    if a.alarmOut = a.alarmSense then s.setAlarms { a with readback := none }
    else if a.readback.isSome then s
    else s.setAlarms { a with readback := some Config.readbackMs }

/-- Whether any entry holds the line mark (R174). -/
def AlarmUnit.anyMark (a : AlarmUnit) : Bool := (List.finRange 16).any fun i => a.entries[i].lineMark

/-- ALARM_OUT judged anew from the line marks (R174); a change of it is compared with ALARM_SENSE (R175). -/
def judgeLine (s : State) : State :=
  if s.alarms.alarmOut = s.alarms.anyMark then s
  else judgeReadback (s.setAlarms { s.alarms with alarmOut := s.alarms.anyMark })

/-! ### Occurrences -/

/-- The claims of a source's reaction set as it leaves CLEAR: HALT alone if the set holds HALT, else PARK
with cause BREAK for SHEET_BREAK and SHEET_LOST and REACTION for every other source (R173). They are taken
at the end of the event (log entry 10). -/
def giveClaims (i : Fin 16) (s : State) : State :=
  let r := s.alarms.sets[i]
  if r.halt then s.setAlarms { s.alarms with claims := s.alarms.claims ++ [.halt] }
  else if r.park then
    let cause : ParkCause := if i = srcSheetBreak ∨ i = srcSheetLost then .brk else .reaction
    s.setAlarms { s.alarms with claims := s.alarms.claims ++ [.park cause] }
  else s

/-- The entry of an occurrence that finds it CLEAR (R168). -/
def newEpisode (s : State) (i : Fin 16) (d : Option Detail) (drill : Bool) (state : AlarmState) : AlarmEntry where
  state := state
  count := 1
  episode := some
    { firstUptime := s.link.uptime, firstScan := s.traverse.runningScan, lastUptime := s.link.uptime,
      detail := d, drill := drill }
  lineMark := s.alarms.sets[i].line

/-- The entry of an occurrence that finds it in another state: counted, holding at 255, with the last
occurrence, detail and drill flag replaced (R168). -/
def AlarmEntry.recurs (e : AlarmEntry) (uptime : Word32) (d : Option Detail) (drill : Bool) : AlarmEntry :=
  { e with
    count := min 255 (e.count + 1)
    episode := some
      { firstUptime := (e.episode.map Episode.firstUptime).getD uptime
        firstScan := (e.episode.map Episode.firstScan).getD none
        lastUptime := uptime, detail := d, drill := drill } }

/-- An occurrence (R168): from CLEAR the entry goes to the given state with its fields set and the reactions
are taken; otherwise it is counted. A start that finds the entry LATCHED makes it ACTIVE (R169), which the
argument `relatched` gives. -/
def occur (i : Fin 16) (d : Option Detail) (drill : Bool) (fromClear relatched : AlarmState) (s : State) : State :=
  let e := s.alarms.entries[i]
  match e.state with
  | .clear => giveClaims i (judgeLine (changeEntry i (newEpisode s i d drill fromClear) s))
  | .latched => changeEntry i { e.recurs s.link.uptime d drill with state := relatched } s
  | _ => changeEntry i (e.recurs s.link.uptime d drill) s

/-- An occurrence of an event source (R170). -/
def raiseEvent (i : Fin 16) (d : Detail) (s : State) : State := occur i (some d) false .latched .latched s

/-- A drill of a source (R177): an occurrence with the drill flag and no detail. -/
def raiseDrill (i : Fin 16) (s : State) : State := occur i none true .latched .latched s

/-- The start of a condition (R169): a start that finds the entry ACTIVE or ACTIVE_ACKED leaves it. -/
def startCondition (i : Fin 16) (d : Option Detail) (s : State) : State :=
  match s.alarms.entries[i].state with
  | .clear | .latched => occur i d false .active .active s
  | _ => s

/-- The end of a condition (R169). -/
def endCondition (i : Fin 16) (s : State) : State :=
  match s.alarms.entries[i].state with
  | .active | .activeAcked => judgeLine (changeEntry i s.alarms.entries[i].ended s)
  | _ => s

/-- A change of a condition's detail while it stands (R169). -/
def changeDetail (i : Fin 16) (d : Detail) (s : State) : State :=
  match s.alarms.entries[i].state with
  | .active | .activeAcked => changeEntry i (s.alarms.entries[i].withDetail d) s
  | _ => s

/-- The owner of a condition whose detail is a set reports it as the set goes from old to new: empty means
the condition is ended (R57, R62, R96). -/
def reportSet (i : Fin 16) (old new : Byte) (s : State) : State :=
  if old = new then s
  else if new = 0 then endCondition i s
  else if old = 0 then startCondition i (some (.set new)) s
  else changeDetail i (.set new) s

/-! ### Acknowledgement -/

/-- The entry after an acknowledgement: LATCHED becomes CLEAR, ACTIVE becomes ACTIVE_ACKED, and the mark of an
entry moved is cleared (R176, R174). -/
def AlarmEntry.acked (e : AlarmEntry) : AlarmEntry :=
  match e.state with
  | .latched => { e with state := .clear, lineMark := false }
  | .active => { e with state := .activeAcked, lineMark := false }
  | _ => e

/-- The acknowledgement of one source (R176); REPORT posts a notice if the entry is moved. -/
def ackSource (i : Fin 16) (s : State) : State :=
  match s.alarms.entries[i].state with
  | .latched | .active => judgeLine (changeEntry i s.alarms.entries[i].acked s)
  | _ => s

/-- The acknowledgement the resume step asks for: only if the entry is LATCHED (R156). -/
def ackIfLatched (i : Fin 16) (s : State) : State :=
  if s.alarms.entries[i].state = .latched then ackSource i s else s

end Sys2Proof.Machine
end

