-- ==== Sys2Proof/Machine/Profile.lean ====
section
/-! DEFINITION. The Profile Unit (chapter 7) and what the Box Accumulator does outside binning (R100, R105,
R107, R110): applications of layouts, zones and curves, scan contexts, the close of a scan, its filter
update, banks, records and SCAN notice. -/

namespace Sys2Proof.Machine

/-! ### Filter resets and publication -/

/-- A filter reset of the channels named (R126). -/
def ProfileUnit.resetFilters (p : ProfileUnit) (which : Fin 5 → Bool) : ProfileUnit :=
  { p with filters := tabulate 5 fun c => if which c then ChannelFilter.cold else p.filters[c] }

/-- Publication withdrawn: the published and the waiting mark are cleared, a hold stands (R137). -/
def ProfileUnit.withdraw (p : ProfileUnit) : ProfileUnit := { p with published := none, waiting := none }

/-- A break resume: every filter age 0, every F and stale count kept (R127). -/
def breakResume (s : State) : State :=
  s.setProfile
    { s.profile with filters := tabulate 5 fun c => { s.profile.filters[c] with age := 0 } }

/-! ### Applications -/

/-- A layout applied (R105): in force, nothing staged, the generation one higher, every accumulator cleared;
every filter is reset and publication withdrawn (R126, R137). -/
def applyLayout (l : Layout) (s : State) : State :=
  (s.setBoxes
    { s.boxes with
      layout := some l, stagedLayout := none, generation := s.boxes.generation + 1
      accumulators := Vector.replicate 4 [] }).setProfile
    (s.profile.resetFilters fun _ => true).withdraw

/-- A curve applied to a slot (R73): in force, nothing staged for the slot, its channel's filter reset, and
channel 4's as well for slot 0 and for the slot of kind WATER (R126). -/
def applyCurve (k : Fin 4) (c : Curve) (s : State) : State :=
  (s.setConversion
    { s.conversion with
      curves := s.conversion.curves.set k (some c), staged := s.conversion.staged.set k none }).setProfile
    (s.profile.resetFilters fun ch =>
      ch.val = k.val || (ch = 4 && (k = 0 || s.headLink.slots[k].kind = .water)))

/-- The staged layout, if one is held, applied at a scan start (R110). -/
def applyStagedLayout (s : State) : State :=
  match s.boxes.stagedLayout with
  | some l => applyLayout l s
  | none => s

/-- Every zone that holds a staged replacement takes it (R107). -/
def applyStagedZones (s : State) : State :=
  s.setBoxes
    { s.boxes with
      zones := tabulate 8 fun z => (s.boxes.stagedZones[z]).getD s.boxes.zones[z]
      stagedZones := Vector.replicate 8 none }

/-- The staged curve of a slot, if one is held, applied at a scan start (R72). -/
def applyStagedCurve (s : State) (k : Fin 4) : State :=
  match s.conversion.staged[k] with
  | some c => applyCurve k c s
  | none => s

/-! ### The scan start (R110, R119) -/

/-- How a scan that starts now maps positions (R102, R110). -/
def State.mapFor (s : State) (l : Layout) : BoxMap :=
  match l.mode with
  | .fixed => .fixed
  | .edge =>
    match s.edges.low.state, s.edges.low.find, s.edges.high.state, s.edges.high.find with
    | .found, some (low, _), .found, some (high, _) => if low < high then .edges low high else .unmapped
    | _, _, _, _ => .unmapped

/-- The layout in force; a scan never starts without one (R29), so the default is never used there. -/
def State.layoutInForce (s : State) : Layout := s.boxes.layout.getD { mode := .fixed, boxes := 1, origin := 0, width := 10 }

/-- The Box Accumulator's scan-start work (R110): the staged layout and zones, the context, the clearing. -/
def startBoxes (scan : Nat) (dir : Dir) (s : State) : State :=
  let s := applyStagedZones (applyStagedLayout s)
  let l := s.layoutInForce
  s.setBoxes
    { s.boxes with
      context := some { scan := scan, dir := dir, layout := l, map := s.mapFor l }
      accumulators := Vector.replicate 4 [] }

/-- The channel set of a scan that starts now: the enabled slots, and channel 4 if one of them is the WATER
slot (R119). -/
def State.channelSet (s : State) : Byte :=
  s.enabledSlots ||| (if s.waterSlot.isSome then 0b10000#8 else 0)

/-- The Profile Unit opens the scan context (R119) and counts the scan number on (R118). -/
def startProfile (scan : Nat) (dir : Dir) (s : State) : State :=
  let l := s.layoutInForce
  s.setProfile
    { s.profile with
      nextScan := nextNumber scan
      context := some
        { scan := scan, dir := dir, startPosition := s.counter, millis := 0, channels := s.channelSet,
          waterSlot := s.waterSlot, generation := s.boxes.generation, layout := l, map := s.mapFor l,
          stdExpired := false, turnExtended := false } }

/-- The running scan is marked STD_EXPIRED (R97). -/
def markExpired (s : State) : State :=
  s.setProfile { s.profile with context := s.profile.context.map fun c => { c with stdExpired := true } }

/-- The running scan is marked TURN_EXTENDED (R26). -/
def markExtended (s : State) : State :=
  s.setProfile { s.profile with context := s.profile.context.map fun c => { c with turnExtended := true } }

/-- The millisecond count of the scan context, counted at a motion tick (R119). -/
def countMillis (s : State) : State :=
  s.setProfile
    { s.profile with context := s.profile.context.map fun c => { c with millis := min 4294967295 (c.millis + 1) } }

/-! ### Scan values (R121, R123) -/

/-- A cleared accumulator. -/
def Accumulator.zero : Accumulator where
  sum := 0
  count := 0

/-- The scan value of a box: its rounded mean when it has at least min_count readings (R121). -/
def Accumulator.scanValue (a : Accumulator) (minCount : Nat) : Option Int :=
  if minCount ≤ a.count then some (roundInt a.sum a.count) else none

/-- Moisture from a water and a weight value (R123, R163). -/
def moistureValue (water weight : Option Int) : Option Int :=
  match water, weight with
  | some wa, some we =>
    if 0 < we then some (clampInt 0 10000 (roundInt (10000 * wa) we.toNat)) else none
  | _, _ => none

/-- The scan values of boxes 0 to n - 1 of a slot channel. -/
def State.slotValues (s : State) (n : Nat) (k : Fin 4) : List (Option Int) :=
  (List.range n).map fun b =>
    (Table.get Accumulator.zero s.boxes.accumulators[k] b).scanValue
      (s.profile.settings[k.val]'(by omega)).minCount

/-- The scan values of a channel of a scan. -/
def State.channelValues (s : State) (c : ScanContext) (ch : Fin 5) : List (Option Int) :=
  if h : ch.val < 4 then s.slotValues c.layout.boxes ⟨ch.val, h⟩
  else
    match c.waterSlot with
    | some w => List.zipWith moistureValue (s.slotValues c.layout.boxes w) (s.slotValues c.layout.boxes 0)
    | none => List.replicate c.layout.boxes none

/-! ### The figures of a channel (R122, R129) -/

/-- The boxes that have a scan value. -/
def validValues (values : List (Option Int)) : List Int := values.filterMap id

/-- The scan average (R122). -/
def averageOf (values : List (Option Int)) : Option Int :=
  match validValues values with
  | [] => none
  | vs => some (roundInt vs.sum vs.length)

/-- Whether a channel is thin (R122). -/
def isThin (t : FilterSettings) (values : List (Option Int)) : Bool :=
  (validValues values).length < t.minValid || (validValues values).isEmpty

/-- The range and the variance of a channel that is not thin (R129). -/
def statistics (values : List (Option Int)) (average : Int) : Nat × Nat :=
  let vs := validValues values
  let high := vs.foldl max (vs.headD 0)
  let low := vs.foldl min (vs.headD 0)
  ((high - low).toNat, (vs.map fun v => (v - average).natAbs ^ 2).sum / vs.length)

/-! ### The filter (R124, R125) -/

/-- One box's filtered value after a close with a scan value: a step of delta / 2^k_eff toward its
deviation (R124). -/
def filterStep (kEff : Nat) (average f value : Int) : Int :=
  f + roundInt ((value - average) - f) (2 ^ kEff)

/-- F of the boxes from b on: valid boxes move, missing boxes are held (R124, R125). -/
def updateValues (kEff : Nat) (average : Int) (t : Table Int) : Nat → List (Option Int) → Table Int
  | _, [] => t
  | b, some v :: rest =>
    updateValues kEff average (t.put 0 b (filterStep kEff average (Table.get 0 t b) v)) (b + 1) rest
  | b, none :: rest => updateValues kEff average t (b + 1) rest

/-- The stale counts of the boxes from b on: 0 for a valid box, one more for a missing one (R124, R125). -/
def updateStale (t : Table Nat) : Nat → List (Option Int) → Table Nat
  | _, [] => t
  | b, some _ :: rest => updateStale (t.put 0 b 0) (b + 1) rest
  | b, none :: rest => updateStale (t.put 0 b (min 255 (Table.get 0 t b + 1))) (b + 1) rest

/-- The filter of a channel that is not thin, updated at a COMPLETE close (R124, R125). -/
def ChannelFilter.update (f : ChannelFilter) (k : Nat) (average : Int) (values : List (Option Int)) :
    ChannelFilter where
  values := updateValues (min k f.age) average f.values 0 values
  stale := updateStale f.stale 0 values
  age := min 255 (f.age + 1)

/-- The state of a box at a close (R125). -/
def boxState (staleLimit stale : Nat) (value : Option Int) : BoxState :=
  if value.isSome then .valid else if stale < staleLimit then .missing else .void

/-! ### The close (R120) -/

/-- What the close makes of one channel of the set: its filter, its record part and its bank part. -/
structure ClosedChannel where
  filter : ChannelFilter
  part : ChannelPart
  bank : BankChannel
deriving DecidableEq, Repr

/-- One channel closed (R121 to R125, R129). -/
def closeChannel (ch : Fin 5) (f : ChannelFilter) (t : FilterSettings) (values : List (Option Int)) :
    ClosedChannel :=
  let thin := isThin t values
  let average := averageOf values
  let f' := if thin then f else f.update t.k (average.getD 0) values
  let valid := (validValues values).length
  { filter := f'
    part :=
      { channel := ch, thin := thin, validBoxes := valid, average := average,
        rangeVariance := if thin then none else some (statistics values (average.getD 0)) }
    bank :=
      { thin := thin, validBoxes := valid, average := average, age := f'.age,
        boxes := values.zipIdx.map fun e =>
          { filtered := Table.get 0 f'.values e.2, scanValue := e.1,
            state := boxState t.staleLimit (Table.get 0 f'.stale e.2) e.1 } } }

/-- Every channel of the scan's set closed; none outside the set. -/
def State.closedChannels (s : State) (c : ScanContext) : Vector (Option ClosedChannel) 5 :=
  tabulate 5 fun ch =>
    if c.channels.getLsbD ch then
      some (closeChannel ch s.profile.filters[ch] s.profile.settings[ch] (s.channelValues c ch))
    else none

/-- The bank a COMPLETE close writes (R135). -/
def ProfileUnit.bankToWrite (p : ProfileUnit) : Fin 2 :=
  match p.held, p.published with
  | some h, _ => 1 - h
  | none, some b => 1 - b
  | none, none => 1 - p.lastWritten

/-- A bank written and published, or left waiting while a readout holds a bank (R135). -/
def ProfileUnit.writeBank (p : ProfileUnit) (bank : Bank) : ProfileUnit :=
  let w := p.bankToWrite
  let p := { p with banks := p.banks.set w (some bank), lastWritten := w }
  if p.held.isSome then { p with waiting := some w } else { p with published := some w, waiting := none }

/-- A record entered at the newest end of the history ring of 32 (R133). -/
def ProfileUnit.enterRecord (p : ProfileUnit) (r : ScanRecord) : ProfileUnit :=
  { p with history := (p.history ++ [r]).drop ((p.history ++ [r]).length - Config.scanRecords) }

/-- The edges a scan found and its hole count, as the Edge and Break Monitor hands them over (R148). -/
structure ScanEdges where
  low : Option Int
  high : Option Int
  holes : Nat
deriving DecidableEq, Repr

/-- A scan record of the context (R133, Table 7-3). -/
def ScanContext.record (c : ScanContext) (cause : Option AbandonCause) (endPosition : Int) (e : ScanEdges)
    (parts : List ChannelPart) : ScanRecord where
  scan := c.scan
  dir := c.dir
  abandoned := cause
  startPosition := c.startPosition
  endPosition := endPosition
  duration := c.millis
  generation := c.generation
  layout := c.layout
  map := c.map
  stdExpired := c.stdExpired
  turnExtended := c.turnExtended
  holes := e.holes
  lowEdge := e.low
  highEdge := e.high
  parts := parts

/-- The body of a SCAN notice (R138, Table 11-7); bank is 0 none written, 1 published, 2 waiting. -/
def ScanRecord.noticeBody (r : ScanRecord) (bank : Nat) : List Byte :=
  leBytes 4 r.scan ++
  [flagByte r.abandoned.isSome, BitVec.ofNat 8 ((r.abandoned.map AbandonCause.code).getD 0),
    BitVec.ofNat 8 bank, BitVec.ofNat 8 r.parts.length] ++
  r.parts.flatMap fun p =>
    [BitVec.ofNat 8 p.channel, flagByte p.thin, flagByte p.average.isSome] ++ leInt 4 (p.average.getD 0)

/-- The set of thin channels of a record (R139). -/
def ScanRecord.thinSet (r : ScanRecord) : Byte :=
  byteSet fun i => r.parts.any fun p => p.channel = i && p.thin

/-- The close of the running scan at the Profile Unit, stages 2 to 6 of R120. -/
def closeProfile (e : ScanEdges) (s : State) : State :=
  match s.profile.context with
  | none => s
  | some c =>
    let closed := s.closedChannels c
    let filters := tabulate 5 fun ch => ((closed[ch]).map ClosedChannel.filter).getD s.profile.filters[ch]
    let bank : Bank :=
      { scan := c.scan, dir := c.dir, generation := c.generation, layout := c.layout, map := c.map,
        channels := tabulate 5 fun ch => (closed[ch]).map ClosedChannel.bank }
    let record := c.record none s.counter e (closed.toList.filterMap fun r => r.map ClosedChannel.part)
    let p := ({ s.profile with filters := filters, context := none }.writeBank bank).enterRecord record
    let s := s.setProfile p
    let s := if record.thinSet = 0 then s else raiseEvent srcProfileThin (.set record.thinSet) s
    postNotice .scan (record.noticeBody (if p.held.isSome then 2 else 1)) s

/-- The abandonment of the running scan at the Profile Unit (R131). -/
def abandonProfile (cause : AbandonCause) (e : ScanEdges) (s : State) : State :=
  match s.profile.context with
  | none => s
  | some c =>
    let record := c.record (some cause) s.counter e []
    postNotice .scan (record.noticeBody 0)
      (s.setProfile ({ s.profile with context := none }.enterRecord record))

/-- The end of a READ PROFILE hold: the waiting bank, if any, is published (R136). -/
def ProfileUnit.endHold (p : ProfileUnit) : ProfileUnit :=
  match p.held, p.waiting with
  | some _, some w => { p with held := none, published := some w, waiting := none }
  | some _, none => { p with held := none }
  | none, _ => p

end Sys2Proof.Machine
end

