-- ==== Sys2Proof/Machine/Edges.lean ====
section
/-! DEFINITION. The Edge and Break Monitor (chapter 8) but for its resume step: the search context, the edge
table, turn extension, the presence runs with holes and sheet loss, the break line and the hold-off. -/

namespace Sys2Proof.Machine

/-! ### The search context (R146) and the edges of a scan (R148, R149) -/

/-- The interior bounds of a scan that starts now (R146). -/
def State.interiorNow (s : State) : Option (Int × Int) :=
  let margin : Int := s.edges.settings.interiorMargin
  match s.edges.low.state, s.edges.low.find, s.edges.high.state, s.edges.high.find with
  | .found, some (low, _), .found, some (high, _) =>
    if low + margin ≤ high - margin then some (low + margin, high - margin) else none
  | _, _, _, _ => none

/-- The monitor opens the search context of a scan (R146). -/
def startSearch (scan : Nat) (dir : Dir) (s : State) : State :=
  s.setEdges
    { s.edges with
      context := some
        { scan := scan, dir := dir, interior := s.interiorNow, airSeen := false, sheetSeen := false,
          leading := none, lastPresent := none, lastReading := none, holes := 0 } }

/-- The trailing edge of a scan, from its search and the absent run as they stand (R148). -/
def SearchContext.trailing (c : SearchContext) (absentRun edgeRun : Nat) : Option Int :=
  if c.sheetSeen && edgeRun ≤ absentRun then c.lastPresent else none

/-- The edges and the hole count the monitor hands over at the end of a scan, at an abandonment as at a close (R148;
the last paragraph of 8.12 has a scan abandoned by SHEET_LOST lose the trailing edge that R148 finds: log entry 48). The
trailing edge is judged by edge_run as it stands then, also when it was changed since the last record counted (R143, log
entry 43). -/
def State.scanEdges (s : State) : ScanEdges :=
  match s.edges.context with
  | none => { low := none, high := none, holes := 0 }
  | some c =>
    let trailing := c.trailing s.edges.absentRun s.edges.settings.edgeRun
    match c.dir with
    | .fwd => { low := c.leading, high := trailing, holes := c.holes }
    | .rev => { low := trailing, high := c.leading, holes := c.holes }

/-- Whether the trailing side is BEYOND at the close (R148). -/
def State.trailingBeyond (s : State) (c : SearchContext) : Bool :=
  c.lastReading = some .present &&
  (match c.dir with
   | .fwd => s.traverse.turnPoint = some (s.frame.travelMax : Int)
   | .rev => s.traverse.turnPoint = some (s.frame.travelMin : Int))

/-- One side of the edge table. -/
def State.edge (s : State) (high : Bool) : EdgeEntry := if high then s.edges.high else s.edges.low

/-- One side of the edge table replaced. -/
def setEdge (high : Bool) (e : EdgeEntry) (s : State) : State :=
  s.setEdges (if high then { s.edges with high := e } else { s.edges with low := e })

/-- A side written with an edge found at a COMPLETE close (R149). -/
def writeFound (high : Bool) (p : Int) (scan : Nat) (s : State) : State :=
  let e := s.edge high
  match e.state, e.find with
  | .found, some (old, _) =>
    let s' := setEdge high { state := .found, find := some (p, scan), shift := some (p - old) } s
    if s.edges.settings.edgeShiftLimit < (p - old).natAbs then
      raiseEvent srcEdgeShift (.edgeShift high old p) s'
    else s'
  | _, _ => setEdge high { state := .found, find := some (p, scan), shift := none } s

/-- One side of the edge table written at a COMPLETE close (R149). -/
def writeSide (high : Bool) (found : Option Int) (beyond : Bool) (scan : Nat) (s : State) : State :=
  match found with
  | some p => writeFound high p scan s
  | none => if beyond then setEdge high { s.edge high with state := .beyond } s else s

/-- The edge table written at a COMPLETE close (R149). The order of the two sides is a free value, log
entry 40. -/
def writeEdges (s : State) : State :=
  match s.edges.context with
  | none => s
  | some c =>
    let e := s.scanEdges
    let beyond := s.trailingBeyond c
    let low := writeSide false e.low (beyond && c.dir = .rev) c.scan
    let high := writeSide true e.high (beyond && c.dir = .fwd) c.scan
    if Config.lowEdgeFirst s.link.eventNo then high (low s) else low (high s)

/-- The search context is given up (R146). -/
def endSearch (s : State) : State := s.setEdges { s.edges with context := none }

/-! ### Turn extension (R26, R150) -/

/-- Whether a turn point lies farther than another in a direction (R26). -/
def Dir.farther (d : Dir) (p q : Int) : Bool :=
  match d with
  | .fwd => q < p
  | .rev => p < q

/-- A request to extend the turn point, taken in TRAVERSING and refused elsewhere (R26). -/
def extendTurn (p : Int) (s : State) : State :=
  if s.traverse.state = .traversing then
    let q := s.frame.clamp p
    match s.traverse.turnPoint with
    | some t =>
      if s.traverse.scanDir.farther q t then markExtended (s.setTraverse { s.traverse with turnPoint := some q })
      else s
    | none => s
  else s

/-- The extension a PRESENT reading of the traverse at a position asks for (R150). -/
def askExtension (p : Int) (s : State) : State :=
  let o : Int := s.frame.overtravel
  match s.traverse.turnPoint, s.traverse.scanDir with
  | some t, .fwd => if t - o < p then extendTurn (min s.frame.travelMax (p + o)) s else s
  | some t, .rev => if p < t + o then extendTurn (max s.frame.travelMin (p - o)) s else s
  | none, _ => s

/-! ### The presence runs (R144, R145, R151 to R153) -/

/-- Whether a counted record is inside the interior (R145). -/
def State.insideInterior (s : State) (e : HistEntry) : Bool :=
  match s.traverse.state with
  | .traversing =>
    match s.edges.context.bind SearchContext.interior with
    | some (low, high) =>
      e.scan.isSome && e.scan = s.traverse.runningScan && decide (low ≤ e.position ∧ e.position ≤ high)
    | none => false
  | .dwelling => decide ((s.frame.travelMin : Int) ≤ e.position ∧ e.position ≤ s.frame.travelMax)
  | _ => false

/-- Whether a counted record is a reading of the traverse (R145). -/
def State.readingOfTraverse (s : State) (e : HistEntry) : Bool :=
  s.traverse.state = .traversing && e.scan.isSome && e.scan = s.traverse.runningScan

/-- The edge search after a reading of the traverse, with the runs as they stand after it (R147). -/
def SearchContext.search (c : SearchContext) (m : EdgeMonitor) (presence : Presence) (p : Int) : SearchContext :=
  let run := m.settings.edgeRun
  { c with
    airSeen := c.airSeen || run ≤ m.absentRun
    sheetSeen := c.sheetSeen || run ≤ m.presentRun
    leading :=
      match c.leading with
      | some l => some l
      | none => if run ≤ m.presentRun && c.airSeen then m.presentFirst else none
    lastPresent := if presence = .present then some p else c.lastPresent
    lastReading := some presence }

/-- A hole, when a PRESENT reading ends a qualified run of that length (R153). -/
def judgeHole (s : State) : State :=
  let m := s.edges
  if m.qualification = .qualified && m.settings.holeRun ≤ m.absentRun && m.absentRun < m.settings.breakRun then
    (raiseEvent srcHole (.hole (m.absentFirst.getD 0) m.absentRun) s).setEdges
      { m with context := m.context.map fun c => { c with holes := min 65535 (c.holes + 1) } }
  else s

/-- The runs after a PRESENT reading at a position (R144). -/
def EdgeMonitor.countPresent (m : EdgeMonitor) (p : Int) : EdgeMonitor :=
  { m with
    presentRun := min 65535 (m.presentRun + 1)
    presentFirst := if m.presentRun = 0 then some p else m.presentFirst
    absentRun := 0, absentFirst := none, qualification := .none }

/-- The runs and the qualification after an ABSENT reading at a position (R144, R151). A reading outside the interior
disqualifies a REPORTED run too (log entry 45). -/
def EdgeMonitor.countAbsent (m : EdgeMonitor) (p : Int) (inside : Bool) : EdgeMonitor :=
  { m with
    presentRun := 0, presentFirst := none
    absentRun := min 65535 (m.absentRun + 1)
    absentFirst := if m.absentRun = 0 then some p else m.absentFirst
    qualification :=
      if !inside then .disqualified else if m.absentRun = 0 then .qualified else m.qualification }

/-- The hold-off after SHEET_LOST (R155). -/
def Holdoff.afterLoss (h : Holdoff) (seconds : Nat) : Holdoff :=
  match h with
  | .wait => .wait
  | _ => .running (1000 * seconds)

/-- SHEET_LOST, when a qualified run has reached break_run (R152); the hold-off is started (R155). -/
def judgeLoss (s : State) : State :=
  let m := s.edges
  if m.qualification = .qualified && m.settings.breakRun ≤ m.absentRun then
    (raiseEvent srcSheetLost (.position (m.absentFirst.getD 0)) s).setEdges
      { m with
        qualification := .reported
        holdoff := m.holdoff.afterLoss m.settings.breakHoldoff }
  else s

/-- The edge search and turn extension of a counted record (R147, R150). -/
def searchEdges (presence : Presence) (e : HistEntry) (s : State) : State :=
  if s.readingOfTraverse e then
    let s :=
      s.setEdges { s.edges with context := s.edges.context.map fun c => c.search s.edges presence e.position }
    if presence = .present then askExtension e.position s else s
  else s

/-- The monitor takes a weight record with the history entry it is attributed to (R144). -/
def monitorReading (presence : Presence) (entry : Option HistEntry) (s : State) : State :=
  match entry with
  | none => s
  | some e =>
    if e.shutterOpen then
      match presence with
      | .unknown => s
      | .present =>
        let s := judgeHole s
        searchEdges .present e (s.setEdges (s.edges.countPresent e.position))
      | .absent =>
        let s := s.setEdges (s.edges.countAbsent e.position (s.insideInterior e))
        searchEdges .absent e (judgeLoss s)
    else s

/-! ### The break line (R154) and the hold-off (R155) -/

/-- The debounce after the line's level is seen (R154). -/
def EdgeMonitor.debounceNow (m : EdgeMonitor) : EdgeMonitor :=
  { m with
    debounce :=
      if m.breakIn = m.accepted then none
      else if m.debounce.isSome then m.debounce else some m.settings.breakDebounce }

/-- The hold-off when the break condition ends (R155). -/
def Holdoff.afterBreak (h : Holdoff) (seconds : Nat) : Holdoff :=
  match h with
  | .wait => .running (1000 * seconds)
  | _ => h

/-- The accepted level takes the line's level, and the condition with the hold-off follows (R154, R155). -/
def acceptBreakLevel (s : State) : State :=
  let m := { s.edges with accepted := s.edges.breakIn, debounce := none }
  if s.edges.breakIn then
    startCondition srcSheetBreak none (s.setEdges { m with holdoff := .wait })
  else
    endCondition srcSheetBreak
      (s.setEdges { m with holdoff := m.holdoff.afterBreak m.settings.breakHoldoff })

/-- The hold-off given up as the carriage leaves a break park (R155). -/
def dropHoldoff (s : State) : State :=
  match s.edges.holdoff with
  | .running _ | .due => s.setEdges { s.edges with holdoff := .idle }
  | _ => s

/-- The remaining time of a running hold-off, one millisecond on (log entry 11). -/
def countHoldoff (s : State) : State :=
  match s.edges.holdoff with
  | .running n => s.setEdges { s.edges with holdoff := .running (n - 1) }
  | _ => s

end Sys2Proof.Machine
end

