-- ==== Sys2Proof/Machine/Standards.lean ====
section
/-! DEFINITION. The Standardize Unit (chapter 5) and the Point Recorder's own part (chapter 9): the cycle and
its phases, evaluation, records, the schedule, STD_EXPIRED; the dwell, its sums and its blocks. What a
completed cycle makes the traverse do is in Machine/Traverse.lean. -/

namespace Sys2Proof.Machine

/-! ### The cycle (R84 to R87) -/

/-- A collection at the beginning of a cycle (R84). -/
def Collection.empty : Collection where
  state := .dark
  darkSum := 0
  darkCount := 0
  refSum := 0
  refCount := 0

/-- Whether some slot of a cycle is in a collection state. -/
def Cycle.anyIn (c : Cycle) (state : CollectState) : Bool :=
  (List.finRange 4).any fun k => (c.slots[k]).any fun x => x.state = state

/-- Whether every slot of a cycle is NO_DATA. -/
def Cycle.allNoData (c : Cycle) : Bool :=
  (List.finRange 4).all fun k => (c.slots[k]).all fun x => x.state = .noData

/-- Every slot of a cycle changed. -/
def Cycle.mapSlots (c : Cycle) (f : Collection → Collection) : Cycle :=
  { c with slots := tabulate 4 fun k => (c.slots[k]).map f }

/-- REF is entered: every slot in REF_WAIT becomes REF (R85). -/
def Cycle.toRef (c : Cycle) : Cycle :=
  { c.mapSlots fun x => if x.state = .refWait then { x with state := .ref } else x with
    phase := .ref, phaseTimer := none }

/-- REF_SETTLE is entered; with no settling time REF follows at once (R85). -/
def Cycle.toRefSettle (c : Cycle) : Cycle :=
  if c.settings.refSettle = 0 then c.toRef
  else { c with phase := .refSettle, phaseTimer := some c.settings.refSettle }

/-- EVALUATE is entered and the timeout timer stopped (R85). -/
def Cycle.toEvaluate (c : Cycle) : Cycle :=
  { c with phase := .evaluate, phaseTimer := none, timeoutTimer := none }

/-- The cycle after a change of a collection: the end of DARK and the end of REF (R85). -/
def Cycle.advance (c : Cycle) : Cycle :=
  match c.phase with
  | .dark => if c.anyIn .dark then c else if c.allNoData then c.toEvaluate else c.toRefSettle
  | .ref => if c.anyIn .ref then c else c.toEvaluate
  | _ => c

/-- The Standardize Unit holds another cycle. -/
def setCycle (c : Option Cycle) (s : State) : State :=
  s.setStandardize { s.standardize with cycle := c }

/-- SHUTTER follows a phase command in STANDARDIZING and in no other state (R24). -/
def commandShutter (open_ : Bool) (s : State) : State :=
  match s.traverse.state with
  | .standardizing _ => s.setTraverse { s.traverse with shutter := open_ }
  | _ => s

/-- A cycle replaced by a later one; the OPEN command is given as DARK ends into REF_SETTLE (R85). -/
def stepCycle (old new : Cycle) (s : State) : State :=
  let s := setCycle (some new) s
  if old.phase = .dark && (new.phase = .refSettle || new.phase = .ref) then commandShutter true s else s

/-- A cycle begins as the traverse enters STANDARDIZING with a destination (R84). -/
def beginCycle (dest : CycleDest) (s : State) : State :=
  let t := s.standardize
  let cause : CycleCause :=
    if t.pendingRequest.isSome then .request else if dest = .turnLow then .start else .scheduled
  let settling := t.settings.darkSettle ≠ 0
  commandShutter false
    (setCycle
      (some
        { cause := cause
          unconditional := t.pendingRequest.getD false
          settings := t.settings
          phase := if settling then .darkSettle else .dark
          phaseTimer := if settling then some t.settings.darkSettle else none
          timeoutTimer := some t.settings.stdTimeout
          startedAt := s.link.uptime
          slots := tabulate 4 fun k => if s.headLink.slots[k].enabled then some Collection.empty else none }) s)

/-- The phase timer expires: DARK_SETTLE into DARK, REF_SETTLE into REF (R85). -/
def Cycle.settled (c : Cycle) : Cycle :=
  match c.phase with
  | .darkSettle => { c with phase := .dark, phaseTimer := none }
  | .refSettle => c.toRef
  | _ => c

/-- A GOOD value taken into a collection (R86). -/
def Collection.take (x : Collection) (phase : CyclePhase) (settings : StdSettings) (value : Nat) : Collection :=
  match phase, x.state with
  | .dark, .dark =>
    { x with
      darkSum := x.darkSum + value, darkCount := x.darkCount + 1
      state := if settings.nDark ≤ x.darkCount + 1 then .refWait else .dark }
  | .ref, .ref =>
    { x with
      refSum := x.refSum + value, refCount := x.refCount + 1
      state := if settings.nRef ≤ x.refCount + 1 then .done else .ref }
  | _, _ => x

/-- A GOOD report taken by the running cycle, if there is one (R86). -/
def collectReport (k : Fin 4) (value : Nat) (s : State) : State :=
  match s.standardize.cycle with
  | none => s
  | some c =>
    let c' : Cycle :=
      { c with slots := c.slots.set k ((c.slots[k]).map fun x => x.take c.phase c.settings value) }
    stepCycle c c'.advance s

/-- Whether a report of a slot would end the last collection of the running cycle (R75). -/
def State.endsCollection (s : State) (k : Fin 4) (value : Nat) : Bool :=
  match (collectReport k value s).standardize.cycle with
  | some c => c.phase = .evaluate
  | none => false

/-- The timeout: every slot not DONE becomes NO_DATA and the cycle goes to EVALUATE (R87). -/
def Cycle.timedOut (c : Cycle) : Cycle :=
  (c.mapSlots fun x => if x.state = .done then x else { x with state := .noData }).toEvaluate

/-! ### Evaluation (R88, R89) -/

/-- What a slot's evaluation finds. -/
structure SlotVerdict where
  result : StdResult
  dark : Option Nat
  ref : Option Nat
deriving DecidableEq, Repr

/-- Whether a reference drifts from the accepted one by more than the limit (R88). -/
def drifts (limit ref accepted : Nat) : Bool :=
  limit * accepted < ((ref : Int) - accepted).natAbs * 1000

/-- The verdict on a slot of a cycle (R88). -/
def State.judgeSlot (s : State) (c : Cycle) (k : Fin 4) (x : Collection) : SlotVerdict :=
  let dark := roundNat x.darkSum c.settings.nDark
  let ref := roundNat x.refSum c.settings.nRef
  if x.state = .done then
    let accepted := s.standardize.records[k].accepted
    { dark := some dark, ref := some ref
      result :=
        if s.headLink.slotTripped k then .watch
        else if (ref : Int) - dark < c.settings.minSpan[k] then .span
        else if !c.unconditional && accepted.any (fun a => drifts c.settings.driftLimit[k] ref a.ref) then .drift
        else .accepted }
  else
    { result := .noData, dark := if c.settings.nDark ≤ x.darkCount then some dark else none, ref := none }

/-- A record after a verdict (R89). -/
def StdRecord.judged (r : StdRecord) (v : SlotVerdict) (uptime : Word32) : StdRecord :=
  match v.result, v.dark, v.ref with
  | .accepted, some d, some f =>
    { accepted := some { dark := d, ref := f, acceptedAt := uptime }
      acceptedCount := min 65535 (r.acceptedCount + 1)
      lastResult := .accepted, lastDark := some d, lastRef := some f }
  | result, d, f => { r with lastResult := result, lastDark := d, lastRef := f }

/-- The records after the evaluation of a cycle: all written at once, those of other slots untouched (R89). -/
def State.judgedRecords (s : State) (c : Cycle) : Vector StdRecord 4 :=
  tabulate 4 fun k =>
    match c.slots[k] with
    | some x => s.standardize.records[k].judged (s.judgeSlot c k x) s.link.uptime
    | none => s.standardize.records[k]

/-! ### STD_EXPIRED (R96, R97) -/

/-- Whether a slot is expired (R96). -/
def State.expired (s : State) (k : Fin 4) : Bool :=
  s.headLink.slots[k].enabled &&
  (match s.standardize.records[k].accepted with
   | none => true
   | some a => s.standardize.settings.maxAge < (s.link.uptime - a.acceptedAt).toNat)

/-- STD_EXPIRED evaluated (R96); a running scan is marked when the condition becomes ACTIVE (R97). -/
def evaluateExpired (s : State) : State :=
  let old := s.standardize.expiredSlots
  let new := byteSet fun i => if h : i < 4 then s.expired ⟨i, h⟩ else false
  let s := reportSet srcStdExpired old new (s.setStandardize { s.standardize with expiredSlots := new })
  if old = 0 && new ≠ 0 && s.traverse.state = .traversing then markExpired s else s

/-- The scan that starts is marked if STD_EXPIRED stands (R97). -/
def startExpired (s : State) : State := if s.standardize.expiredSlots = 0 then s else markExpired s

/-! ### Completion and abandonment (R90 to R92) -/

/-- The body of the STD notice of a cycle, from the records as they stand (R92, Table 11-7). -/
def State.stdBody (s : State) (c : Cycle) (abandoned : Bool) : List Byte :=
  let slots := (List.finRange 4).filter fun (k : Fin 4) => (c.slots[k]).isSome
  [BitVec.ofNat 8 c.cause.code, flagByte abandoned, flagByte c.unconditional] ++ leInt 4 s.counter ++
  [0, BitVec.ofNat 8 slots.length] ++
  slots.flatMap fun (k : Fin 4) =>
    let r := s.standardize.records[k]
    [BitVec.ofNat 8 k, BitVec.ofNat 8 r.lastResult.code, flagByte r.lastDark.isSome ||| (flagByte r.lastRef.isSome <<< 1)] ++
    leBytes 2 (r.lastDark.getD 0) ++ leBytes 2 (r.lastRef.getD 0)

/-- The slots of a cycle that were not accepted, from the records as written (R90). -/
def State.rejectedSlots (s : State) (c : Cycle) : Byte :=
  byteSet fun i =>
    if h : i < 4 then (c.slots[i]).isSome && s.standardize.records[i].lastResult ≠ .accepted else false

/-- A cycle at EVALUATE is evaluated and completed at the Standardize Unit: records, counter and request,
STD_REJECTED, STD_EXPIRED, the STD notice, the context given up (R88 to R90). -/
def evaluateCycle (c : Cycle) (s : State) : State :=
  let s :=
    s.setStandardize
      { s.standardize with records := s.judgedRecords c, scheduleCounter := 0, pendingRequest := none }
  let rejected := s.rejectedSlots c
  let s := if rejected = 0 then s else raiseEvent srcStdRejected (.set rejected) s
  let s := evaluateExpired s
  setCycle none (postNotice .std (s.stdBody c false) s)

/-- A running cycle is abandoned (R91); nothing changes when none runs. -/
def abandonCycle (s : State) : State :=
  match s.standardize.cycle with
  | none => s
  | some c =>
    let records := tabulate 4 fun k =>
      if (c.slots[k]).isSome then { s.standardize.records[k] with lastResult := .abandoned }
      else s.standardize.records[k]
    let s := s.setStandardize { s.standardize with records := records, cycle := none }
    postNotice .std (s.stdBody c true) s

/-! ### The schedule (R93, R94) -/

/-- The schedule counter counts a scan close (R93). -/
def countClose (s : State) : State :=
  s.setStandardize { s.standardize with scheduleCounter := min 65535 (s.standardize.scheduleCounter + 1) }

/-- Whether a standardize is due (R93). -/
def State.standardizeDue (s : State) : Bool :=
  let t := s.standardize
  s.anyCurve &&
  (t.pendingRequest.isSome || (t.settings.intervalScans ≠ 0 && t.settings.intervalScans ≤ t.scheduleCounter))

/-- A standardize request becomes pending with its option; either request's yes stands (R94). -/
def requestStandardize (unconditional : Bool) (s : State) : State :=
  s.setStandardize
    { s.standardize with pendingRequest := some (unconditional || s.standardize.pendingRequest.getD false) }

/-! ### The dwell (R160 to R164) -/

/-- The Point Recorder holds another dwell context. -/
def setDwell (d : Dwell) (s : State) : State := s.setPoint { s.point with dwell := d }

/-- A dwell opens at a target: the ring is emptied and the context opened (R161). -/
def openDwell (target : Int) (blockLength : Nat) (s : State) : State :=
  s.setPoint
    { ring := []
      dwell :=
        .opened
          { target := target, blockLength := blockLength, pendingLength := none, block := 1, syncs := 0,
            channels := s.enabledSlots, waterSlot := s.waterSlot,
            sums := Vector.replicate 4 Accumulator.zero, presentCount := 0 } }

/-- A dwell ends with a cause; the block in progress and a pending length are dropped (R164). -/
def endDwell (cause : DwellEnd) (s : State) : State :=
  match s.point.dwell with
  | .opened d => setDwell (.ended d.target cause d.channels) s
  | _ => s

/-- A block length asked for in DWELLING: pending unless it is the one in force (R160). -/
def pendLength (n : Nat) (s : State) : State :=
  match s.point.dwell with
  | .opened d => if n = d.blockLength then s else setDwell (.opened { d with pendingLength := some n }) s
  | _ => s

/-- A converted value added to the open dwell (R162). -/
def OpenDwell.add (d : OpenDwell) (k : Fin 4) (value : Int) (present : Bool) : OpenDwell :=
  { d with
    sums := d.sums.set k { sum := d.sums[k].sum + value, count := d.sums[k].count + 1 }
    presentCount := if k = 0 && present then d.presentCount + 1 else d.presentCount }

/-- The mean of a channel's sum (R163). -/
def Accumulator.mean (a : Accumulator) : Option Int := if a.count = 0 then none else some (roundInt a.sum a.count)

/-- The point block the dwell closes at a position (R163). -/
def OpenDwell.closeBlock (d : OpenDwell) (position : Int) : PointBlock where
  block := d.block
  position := position
  presentCount := d.presentCount
  channels :=
    (((List.finRange 4).filter fun (k : Fin 4) => d.channels.getLsbD k).map fun (k : Fin 4) =>
      { channel := k, count := some d.sums[k].count, mean := d.sums[k].mean }) ++
    (match d.waterSlot with
     | some w => [{ channel := 4, count := none, mean := moistureValue d.sums[w].mean d.sums[0].mean }]
     | none => [])

/-- The next block of a dwell opens (R163). -/
def OpenDwell.nextBlock (d : OpenDwell) : OpenDwell :=
  { d with
    block := nextNumber d.block, syncs := 0, sums := Vector.replicate 4 Accumulator.zero, presentCount := 0
    blockLength := d.pendingLength.getD d.blockLength, pendingLength := none }

/-- A sync counted by the Point Recorder (R163). -/
def countDwellSync (s : State) : State :=
  match s.point.dwell with
  | .opened d =>
    let d := { d with syncs := d.syncs + 1 }
    if d.blockLength ≤ d.syncs then
      let ring := s.point.ring ++ [d.closeBlock s.counter]
      s.setPoint { dwell := .opened d.nextBlock, ring := ring.drop (ring.length - Config.pointBlocks) }
    else setDwell (.opened d) s
  | _ => s

end Sys2Proof.Machine
end

