-- ==== Sys2Proof/Machine/Traverse.lean ====
section
/-! DEFINITION. The Traverse Controller (chapter 2) with the Position Unit's reference orders: entry to a
state with its lines, moves, scan starts and closes, the claims, resume orders, and the motion tick. A new
state is entered first, with its MOTION notice; the owners of what ran are told next (log entry 18). -/

namespace Sys2Proof.Machine

/-! ### Entering a state (R17, R18, R24, R31) -/

/-- The MOTION notice of a change from a traverse state, posted only if what it tells changed (R17). -/
def noticeFrom (old : TravState) (s : State) : State :=
  if s.traverse.state.motionKey = old.motionKey then s else postMotion s

/-- The Traverse Controller in a new state: its lines and timers as Table 2-1 and R18, R24, R25, R28, R40,
R41, R42 give them. Keeping the turn point: R25 and log entry 21. -/
def Traverse.entering (t : Traverse) (state : TravState) (holder : Option Claim) : Traverse :=
  let on := state.driveOn
  { t with
    state := state
    holder := holder
    drvEn := on
    shutter := state.opensShutter
    speed := if on then t.speed else 0
    duty := if on then t.duty else 0
    stallTimer := if on then t.stallTimer else 0
    turnPoint := if state.keepsTurnPoint then t.turnPoint else none
    detour := state = .reversing && t.detour
    dwellTimer := if state = .reversing then t.dwellTimer else none
    moveTimer := if state.timesMove then t.moveTimer else none
    readyWatch :=
      if on then
        if t.drvEn then t.readyWatch else if t.drvReady then none else some Config.driveReadyMs
      else none
    driveFault := on && t.driveFault }

/-- The hold-off as the carriage leaves a break park for a state that is none (R155). -/
def leaveBreakPark (old : TravState) (s : State) : State :=
  if old.breakPark && !s.traverse.state.breakPark then dropHoldoff s else s

/-- A traverse state is entered with a holder: lines, timers, the end of a DRIVE_FAULT that stands as DRV_EN
is deasserted (R41), the MOTION notice (R17), the hold-off (R155). -/
def enter (state : TravState) (holder : Option Claim) (s : State) : State :=
  let old := s.traverse
  let s := s.setTraverse (old.entering state holder)
  let s := if old.driveFault && !s.traverse.driveFault then endCondition srcDriveFault s else s
  leaveBreakPark old.state (noticeFrom old.state s)

/-- A change of purpose, cause or destination that is no change of state: the lines, timers and phase stand
(R37, R38). -/
def relabel (state : TravState) (holder : Option Claim) (s : State) : State :=
  noticeFrom s.traverse.state (s.setTraverse { s.traverse with state := state, holder := holder })

/-- A move begun or retargeted (R23). -/
def beginMove (purpose : Purpose) (target : Int) (holder : Option Claim) (s : State) : State :=
  enter (.positioning { purpose := purpose, target := s.frame.clamp target, phase := .run }) holder
    (s.setTraverse { s.traverse with moveTimer := some s.frame.moveTimeout })

/-- A move to park (R23). -/
def beginPark (cause : ParkCause) (holder : Claim) (s : State) : State :=
  beginMove (.toPark cause) s.frame.parkPosition (some holder) s

/-! ### The reference orders of the Traverse Controller (R5) -/

/-- DISCARD: the reference becomes UNKNOWN (R5). -/
def discardReference (s : State) : State := s.setPosition { s.position with reference := .unknown }

/-- ARM: the capture is armed (R5). -/
def armCapture (s : State) : State := s.setPosition { s.position with captureArmed := true }

/-- CANCEL: the capture is disarmed (R5). -/
def cancelCapture (s : State) : State := s.setPosition { s.position with captureArmed := false }

/-- CANCEL, given when homing ends otherwise than by a capture (R36). -/
def cancelHoming (old : TravState) (s : State) : State :=
  match old with
  | .homing _ => cancelCapture s
  | _ => s

/-- Homing ended without a capture: s is 0, DRV_EN deasserted, CANCEL given, UNREFERENCED (R38). -/
def endHoming (s : State) : State := enter .unreferenced none (cancelCapture s)

/-! ### Ending what runs (R32 to R34, R38, R91, R131, R164) -/

/-- The running scan is abandoned: its edges are handed over, its record entered, its number cleared
(R131, R148). -/
def abandonScan (cause : AbandonCause) (s : State) : State :=
  let s := abandonProfile cause s.scanEdges (endSearch s)
  s.setTraverse { s.traverse with runningScan := none }

/-- What ran in the state that was left is ended: a scan, a cycle, a dwell. -/
def endRunning (old : TravState) (scan : AbandonCause) (dwell : DwellEnd) (s : State) : State :=
  match old with
  | .traversing => abandonScan scan s
  | .standardizing _ => abandonCycle s
  | .dwelling => endDwell dwell s
  | _ => s

/-! ### Claims (R32, R33) -/

/-- A HALT claim with its cause (R32). -/
def takeHalt (cause : HaltCause) (s : State) : State :=
  match s.traverse.state with
  | .halted old => if cause = .reaction && old = .limit then s else enter (.halted cause) (some .halt) s
  | old =>
    endRunning old (if cause = .restart then .restart else .reaction) .halt
      (enter (.halted cause) (some .halt) (cancelHoming old s))

/-- A PARK claim with its cause (R33). -/
def takePark (cause : ParkCause) (s : State) : State :=
  match s.traverse.state with
  | .unreferenced | .parked _ | .halted _ => s
  | .homing _ => endHoming s
  | .positioning _ =>
    if s.traverse.holder = some .park || s.traverse.holder = some .halt then s else beginPark cause .park s
  | old => endRunning old (if cause = .brk then .brk else .reaction) .park (beginPark cause .park s)

/-- A claim that an alarm gave (R173). -/
def takeClaim (s : State) (c : AlarmClaim) : State :=
  match c with
  | .halt => takeHalt .reaction s
  | .park cause => takePark cause s

/-- Claims put in the order in which an event takes them: any order is allowed (R173, log entry 10). -/
def placeClaims (eventNo : Nat) : List AlarmClaim → List AlarmClaim
  | [] => []
  | c :: rest =>
    let placed := placeClaims eventNo rest
    placed.insertIdx (min placed.length (Config.claimPlace eventNo placed.length)) c

/-- The claims of the event in the order they are taken (R173). -/
def State.claimOrder (s : State) : List AlarmClaim := placeClaims s.link.eventNo s.alarms.claims

/-- The claims the event's occurrences gave, taken at the end of the event (R90, R173, log entry 10). -/
def takeClaims (s : State) : State :=
  s.claimOrder.foldl takeClaim (s.setAlarms { s.alarms with claims := [] })

/-! ### Reference reports (R34) -/

/-- A loss of reference with cause TRANSITION, INDEX or CONFIG (R34). -/
def loseReference (s : State) : State :=
  match s.traverse.state with
  | .unreferenced | .halted _ => s
  | old => endRunning old .reaction .reference (enter .unreferenced none (cancelHoming old s))

/-- The report of a capture: in HOMING the move to park, elsewhere DISCARD (R34, R36). -/
def reportCapture (s : State) : State :=
  match s.traverse.state with
  | .homing _ => beginPark .homed .host s
  | _ => discardReference s

/-! ### Scan start (R29) and approach (R37) -/

/-- The scan start that passes its checks: number, direction, turn point, TRAVERSING, then the owners' work
(R29, R72, R97, R110, R119, R146, R197). -/
def startScan (dir : Dir) (s : State) : State :=
  let n := s.profile.nextScan
  let s :=
    enter .traversing (some .scanProgram)
      (s.setTraverse
        { s.traverse with scanDir := dir, runningScan := some n, turnPoint := some (s.turnPointFor dir) })
  let s := (List.finRange 4).foldl applyStagedCurve (startBoxes n dir s)
  startExpired (startSearch n dir (startProfile n dir s))

/-- A scan start: readiness, then blocking, then the start (R29). -/
def scanStart (dir : Dir) (s : State) : State :=
  if !s.readyAtStart then beginPark .config .scanProgram s
  else if s.blocked then beginPark .reaction .scanProgram s
  else startScan dir s

/-- The approach of START and of a resume order (R37, R43). -/
def approach (holder : Claim) (s : State) : State :=
  if s.lacksStandardize then beginMove (.toStd .turnLow) s.frame.stdPosition (some holder) s
  else beginMove (.toTurn .fwd false) (s.turnPointFor .rev) (some holder) s

/-! ### Resume (R43, R156) -/

/-- Whether a resume order is taken (R43). -/
def State.canResume (s : State) : Bool :=
  (match s.traverse.state with
   | .parked .brk => true
   | _ => false) && s.ready && !s.blocked

/-- The last resume outcome and an IDLE hold-off (R156). -/
def endResume (o : ResumeOutcome) (s : State) : State :=
  s.setEdges { s.edges with holdoff := .idle, lastResume := o }

/-- A resume order taken: the attempts counted, the break resume of the filter, the approach (R43, R127). -/
def takeResume (s : State) : State :=
  approach .scanProgram
    (breakResume (s.setTraverse { s.traverse with resumeAttempts := s.traverse.resumeAttempts + 1 }))

/-- The resume step (R156), with autoresume and resume_limit as they stand at the step: at the arrival too, when they
were changed while the hold-off was DUE (R143, log entry 44). -/
def resumeStep (s : State) : State :=
  if !s.edges.settings.autoresume || s.edges.settings.resumeLimit ≤ s.traverse.resumeAttempts then
    endResume .notTried s
  else
    let s := ackIfLatched srcSheetLost (ackIfLatched srcSheetBreak s)
    if s.canResume then takeResume (endResume .taken s) else endResume .refused s

/-! ### The end of a move (R22) and of a cycle (R30) -/

/-- Arrival in PARKED; a hold-off that is DUE makes its resume step (R155). -/
def arrivePark (cause : ParkCause) (s : State) : State :=
  let s := enter (.parked cause) none s
  if cause = .brk && s.edges.holdoff = .due then resumeStep s else s

/-- A move complete: the state its purpose names (R22, R84, R161). -/
def completeMove (m : Move) (s : State) : State :=
  match m.purpose with
  | .toPark cause => arrivePark cause s
  | .toStd dest => beginCycle dest (enter (.standardizing dest) s.traverse.holder s)
  | .toPoint n => openDwell m.target n (enter .dwelling (some .host) s)
  | .toTurn dir _ => scanStart dir s

/-- A completed cycle is left by its after-cycle destination (R30). The turn point of the closed scan stands
through a detour, so the default is never used. -/
def leaveCycle (s : State) : State :=
  match s.traverse.state with
  | .standardizing .ret =>
    beginMove (.toTurn s.traverse.scanDir.flip true) (s.traverse.turnPoint.getD 0) s.traverse.holder s
  | .standardizing .turnLow => beginMove (.toTurn .fwd false) (s.turnPointFor .rev) s.traverse.holder s
  | .standardizing .park => beginMove (.toPark .host) s.frame.parkPosition s.traverse.holder s
  | _ => s

/-- A cycle that has reached EVALUATE is evaluated, completed and left (R85, R88 to R90). -/
def settleCycle (s : State) : State :=
  match s.standardize.cycle with
  | some c => if c.phase = .evaluate then leaveCycle (evaluateCycle c s) else s
  | none => s

/-! ### The scan close (R27) and the reversal (R28) -/

/-- The scan closes: REVERSING, the edge table, the Profile Unit, the schedule with the detour decision, and
the running scan number cleared (R27, R93, R120, R149). -/
def closeScan (s : State) : State :=
  let s := writeEdges (enter .reversing (some .scanProgram) s)
  let s := closeProfile s.scanEdges s
  let s := countClose (endSearch s)
  s.setTraverse { s.traverse with runningScan := none, detour := s.standardizeDue }

/-- The direction flip and the scan start at the end of a reversal (R28). -/
def flipAndStart (s : State) : State :=
  let dir := s.traverse.scanDir.flip
  scanStart dir (s.setTraverse { s.traverse with scanDir := dir, dwellTimer := none })

/-- The tick at which s reaches 0 in REVERSING: the detour, the dwell timer, or the flip at once (R28). -/
def endReversal (s : State) : State :=
  let t := s.traverse
  if t.detour then beginMove (.toStd .ret) s.frame.stdPosition (some .scheduledStd) s
  else if t.dwellTimer.isSome then s
  else if s.frame.reverseDwell = 0 then flipAndStart s
  else s.setTraverse { t with dwellTimer := some s.frame.reverseDwell }

/-! ### The motion tick (R19 to R22, R27, R28, R36, R40) -/

/-- The speed demand one step nearer its target (R19). -/
def rampStep (step speed target : Nat) : Nat :=
  if speed ≤ target then min target (speed + step) else max target (speed - step)

/-- The drive direction at a tick: turned only while s is 0 (R19). -/
def Traverse.turned (t : Traverse) (dir : Option Dir) : Dir := if t.speed = 0 then dir.getD t.driveDir else t.driveDir

/-- A tick's ramp toward a speed in a direction; motion asked the other way ramps to 0 (R19). -/
def Traverse.ramp (t : Traverse) (step : Nat) (dir : Option Dir) (target : Nat) : Traverse :=
  let drive := t.turned dir
  { t with
    driveDir := drive
    speed := rampStep step t.speed (if dir = none || dir = some drive then target else 0) }

/-- The ramp of a state at a tick. -/
def rampState (dir : Option Dir) (target : Nat) (s : State) : State :=
  s.setTraverse (s.traverse.ramp s.frame.accelStep dir target)

/-- Whether the carriage is within arrive_tolerance of a target (R22). -/
def State.arrived (s : State) (target : Int) : Bool := (s.counter - target).natAbs ≤ s.frame.arriveTolerance

/-- The move with another phase, the state otherwise as it is. -/
def setPhase (m : Move) (phase : MovePhase) (s : State) : State :=
  s.setTraverse { s.traverse with state := .positioning { m with phase := phase } }

/-- The RUN phase at a tick (R21, R22; log entry 16). -/
def tickRun (m : Move) (s : State) : State :=
  let f := s.frame
  let aim := toward s.counter m.target
  let drive := s.traverse.turned aim
  let braking : Bool := drive.ahead (m.target - s.counter) ≤ brakingDistance f.accelStep s.traverse.speed
  let s := rampState (some drive) (if braking || s.arrived m.target then 0 else f.moveSpeed) s
  if s.traverse.speed = 0 then
    if s.arrived m.target then completeMove m s else if some drive = aim then setPhase m .creep s else s
  else s

/-- The CREEP phase at a tick (R22). -/
def tickCreep (m : Move) (s : State) : State :=
  let s := rampState (toward s.counter m.target) (if s.arrived m.target then 0 else s.frame.creepSpeed) s
  if s.traverse.speed = 0 && s.arrived m.target then completeMove m s else s

/-- HOMING in another phase. -/
def setHoming (phase : HomingPhase) (s : State) : State := s.setTraverse { s.traverse with state := .homing phase }

/-- The phase of homing moved by HOME_SW (R36); log entry 14 says that it moves before the tick's ramp. -/
def moveHoming (phase : HomingPhase) (s : State) : State :=
  match phase, s.position.homeSw with
  | .leave, false => setHoming .seek s
  | .seek, true => setHoming .approach (armCapture s)
  | _, _ => s

/-- The ramp of HOMING in its phase (R36). -/
def rampHoming (s : State) : State :=
  match s.traverse.state with
  | .homing .leave => rampState (some .fwd) s.frame.creepSpeed s
  | .homing .seek => rampState (some .rev) s.frame.homingSpeed s
  | .homing .approach => rampState (some .rev) s.frame.creepSpeed s
  | _ => s

/-- REVERSING at a tick (R28). -/
def tickReversing (s : State) : State :=
  let s := rampState none 0 s
  if s.traverse.speed = 0 then endReversal s else s

/-- TRAVERSING at a tick: the braking comparison, the close or the ramp (R21, R27). The tick of the close is
the first of the reversal (2.15, log entry 17). -/
def tickTraversing (s : State) : State :=
  let t := s.traverse
  let drive := t.turned (some t.scanDir)
  let d := drive.ahead (t.turnPoint.getD 0 - s.counter)
  if d ≤ brakingDistance s.frame.accelStep t.speed then
    tickReversing (closeScan (s.setTraverse { t with driveDir := drive }))
  else rampState (some t.scanDir) s.frame.scanSpeed s

/-- The stall timer at a tick, from the demand and the count as the tick finds them (R40, log entry 15). -/
def watchStall (s : State) : State :=
  let t := s.traverse
  let n :=
    if t.drvEn then
      if s.frame.stallSpeed ≤ t.speed && s.position.counter = t.prevPosition then
        min s.frame.stallTime (t.stallTimer + 1)
      else 0
    else t.stallTimer
  s.setTraverse { t with stallTimer := n, prevPosition := s.position.counter }

/-- The work of a tick in the traverse state. -/
def tickState (s : State) : State :=
  match s.traverse.state with
  | .homing phase => rampHoming (moveHoming phase s)
  | .positioning m =>
    match m.phase with
    | .run => tickRun m s
    | .creep => tickCreep m s
  | .traversing => tickTraversing s
  | .reversing => tickReversing s
  | _ => s

/-- The duty of SPEED_REF for a demand (R20). -/
def dutyOf (vFull speed : Nat) : Nat := min 4095 (roundNat (speed * 4095) vFull)

/-- The duty set at a tick from the demand (R20). -/
def setDuty (s : State) : State :=
  s.setTraverse { s.traverse with duty := dutyOf s.frame.vFull s.traverse.speed }

/-- The motion tick with the level of HOME_SW sampled at it (R3, R19). -/
def motionTick (homeSw : Bool) (s : State) : State :=
  setDuty (tickState (watchStall (countHoldoff (countMillis
    (s.setPosition { s.position with homeSw := homeSw })))))

/-! ### Limit lines (R39) and DRV_READY (R41) -/

/-- The LIMIT condition after a change of a limit line: it stands while either is asserted (R39). -/
def judgeLimits (s : State) : State :=
  let t := s.traverse
  if t.limitLo || t.limitHi then
    match s.alarms.entries[srcLimit].state with
    | .active | .activeAcked => changeDetail srcLimit (.lines t.limitLo t.limitHi) s
    | _ => startCondition srcLimit (some (.lines t.limitLo t.limitHi)) s
  else endCondition srcLimit s

/-- The assertion of a limit line: the HALT claim, the condition, and HOME_FAILED for LIMIT_LO in HOMING
(R36, R39; log entry 30). -/
def assertLimits (lo hi : Bool) (s : State) : State :=
  let old := s.traverse.state
  let s := s.setTraverse { s.traverse with limitLo := s.traverse.limitLo || lo, limitHi := s.traverse.limitHi || hi }
  let s := judgeLimits (takeHalt .limit s)
  match old with
  | .homing _ => if lo then raiseEvent srcHomeFailed (.position s.counter) s else s
  | _ => s

/-- The drive-ready watch after a change of DRV_READY while DRV_EN is asserted (R41): low time counts toward
the fault, high time toward its end. -/
def Traverse.watchReady (t : Traverse) (level : Bool) : Traverse :=
  { t with
    drvReady := level
    readyWatch := if t.drvEn && level = t.driveFault then some Config.driveReadyMs else none }

/-- The watch expires: DRIVE_FAULT starts, or ends (R41). -/
def expireReadyWatch (s : State) : State :=
  let t := s.traverse
  let s' := s.setTraverse { t with readyWatch := none, driveFault := !t.driveFault }
  if t.driveFault then endCondition srcDriveFault s' else startCondition srcDriveFault none s'

end Sys2Proof.Machine
end

