-- ==== Sys2Proof/Machine/HeadPath.lean ====
section
/-! DEFINITION. The path of a sensor frame (chapters 3, 4, 6): start bits and frames, the outcomes of a sync
period, slot reports, the slow channel, conversion, presence, binning, and the sync itself. -/

namespace Sys2Proof.Machine

/-! ### Conversion (R67 to R70) -/

/-- A slot report (Table 3-4), with the frame's M and D bits where its fields are good. -/
structure SlotReport where
  slot : Fin 4
  seq : Word16
  outcome : FrameOutcome
  value : Nat
  m : Bool
  d : Bool
deriving DecidableEq, Repr

/-- Conversion outcomes (Table 4-1) with the fields each carries. -/
inductive Conversed where
  | noValue
  | notStandardized
  | noCurve (q : Nat)
  | converted (q : Nat) (e : Int)
deriving DecidableEq, Repr

/-- Dark removal and normalization (R68). -/
def normalize (v dark ref : Nat) : Nat := min 65535 ((v - dark) * 32768 / (ref - dark))

/-- Interpolation within one interval of a curve (R69). -/
def interpolate (x0 : Nat) (y0 : Int) (x1 : Nat) (y1 : Int) (q : Nat) : Int :=
  y0 + roundInt (((q - x0 : Nat) : Int) * (y1 - y0)) (x1 - x0)

/-- A curve's value at q, flat beyond its ends (R69). A curve in force has at least two breakpoints (R71). -/
def curveValue : Curve → Nat → Int
  | [], _ => 0
  | [(_, y)], _ => y
  | (x0, y0) :: (x1, y1) :: rest, q =>
    if q ≤ x0 then y0
    else if q < x1 then interpolate x0 y0 x1 y1 q
    else curveValue ((x1, y1) :: rest) q

/-- The conversion of a report (R67). -/
def State.convert (s : State) (r : SlotReport) : Conversed :=
  if r.outcome ≠ .good then .noValue
  else
    match s.standardize.records[r.slot].accepted with
    | none => .notStandardized
    | some a =>
      let q := normalize r.value a.dark a.ref
      match s.conversion.curves[r.slot] with
      | none => .noCurve q
      | some c => .converted q (curveValue c q)

/-! ### Presence (R77 to R80) -/

/-- The class of a q against the thresholds, from the hysteresis state, and the hysteresis state after it
(R77). -/
def Conversion.classify (c : Conversion) (q : Nat) : Presence × Bool :=
  if q ≤ c.presenceThreshold then (.present, true)
  else if q < c.absenceThreshold then (if c.hysteresisPresent then .present else .absent, c.hysteresisPresent)
  else (.absent, false)

/-- Whether a weight reading is attributed where its presence can be told (R78). -/
def State.presenceTold (s : State) (entry : Option HistEntry) : Bool :=
  match entry with
  | none => false
  | some e => !s.presenceIgnored e.position

/-- The presence of a weight record and the hysteresis state after it (R77, R78). -/
def State.presenceOf (s : State) (v : Conversed) (entry : Option HistEntry) : Presence × Bool :=
  match v with
  | .noCurve q | .converted q _ =>
    if s.presenceTold entry then s.conversion.classify q else (.unknown, s.conversion.hysteresisPresent)
  | _ => (.unknown, s.conversion.hysteresisPresent)

/-- The Conversion Unit takes the classification of a weight record (R77, R79). -/
def setPresence (p : Presence × Bool) (s : State) : State :=
  s.setConversion { s.conversion with latest := p.1, hysteresisPresent := p.2 }

/-! ### Binning (R111, R112) and the dwell (R162) -/

/-- The box a converted reading of a slot goes into, if every condition of R111 holds. -/
def State.boxFor (s : State) (k : Fin 4) (entry : Option HistEntry) : Option Nat :=
  match entry, s.boxes.context with
  | some e, some c =>
    if e.scan.isSome && e.scan = s.traverse.runningScan && e.shutterOpen &&
        s.standardize.records[k].accepted.isSome && s.conversion.latest = .present &&
        !s.excluded k e.position then
      match boxOf c.layout c.map e.position with
      | some b => if (Table.get Accumulator.zero s.boxes.accumulators[k] b).count < 65535 then some b else none
      | none => none
    else none
  | _, _ => none

/-- A reading added to an accumulator (R112). -/
def addToBox (k : Fin 4) (b : Nat) (e : Int) (s : State) : State :=
  let t := s.boxes.accumulators[k]
  let a := Table.get Accumulator.zero t b
  s.setBoxes
    { s.boxes with
      accumulators :=
        s.boxes.accumulators.set k (t.put Accumulator.zero b { sum := a.sum + e, count := a.count + 1 }) }

/-- The Box Accumulator takes a conversion record (R111, R112). -/
def binReading (k : Fin 4) (v : Conversed) (entry : Option HistEntry) (s : State) : State :=
  match v, s.boxFor k entry with
  | .converted _ e, some b => addToBox k b e s
  | _, _ => s

/-- The Point Recorder takes a conversion record (R162). -/
def dwellReading (k : Fin 4) (v : Conversed) (presence : Presence) (entry : Option HistEntry) (s : State) : State :=
  match s.point.dwell, v, entry with
  | .opened d, .converted _ e, some h =>
    if h.shutterOpen && (k = 0 || s.conversion.latest = .present) then
      setDwell (.opened (d.add k e (presence = .present))) s
    else s
  | _, _, _ => s

/-- The Conversion Unit takes a report: conversion, classification, and the record handed on to its three
receivers (R67, R79, R81). -/
def conversionWork (r : SlotReport) (s : State) : State :=
  let v := s.convert r
  let entry := s.attributed r.slot r.seq
  if r.slot = 0 then
    let p := s.presenceOf v entry
    monitorReading p.1 entry (dwellReading 0 v p.1 entry (binReading 0 v entry (setPresence p s)))
  else dwellReading r.slot v .unknown entry (binReading r.slot v entry s)

/-! ### The Head Link Controller's own work on a report (R56 to R60) -/

/-- The link state of a slot replaced. -/
def setLinkOf (k : Fin 4) (l : SlotLink) (s : State) : State :=
  s.setHeadLink { s.headLink with links := s.headLink.links.set k l }

/-- SENSOR_FAULT re-evaluated and reported (R57). -/
def judgeFaults (s : State) : State :=
  let new := s.headLink.faults
  reportSet srcSensorFault s.headLink.faultSlots new (s.setHeadLink { s.headLink with faultSlots := new })

/-- HOUSEKEEPING re-evaluated and reported (R62). -/
def judgeWatches (s : State) : State :=
  let new := s.headLink.trips
  reportSet srcHousekeeping s.headLink.trippedWatches new (s.setHeadLink { s.headLink with trippedWatches := new })

/-- The number that bits carry, most significant first. -/
def bitsValue (bits : List Bool) : Nat := bits.foldl (fun n b => 2 * n + b.toNat) 0

/-- A housekeeping entry updated (R60). -/
def updateEntry (e : Option HkEntry) (v : Byte) : HkEntry :=
  match e with
  | none => { value := v, count := 1 }
  | some e => { value := v, count := e.count + 1 }

/-- The check of a slow message (R59). -/
def slowCheck (item value : Nat) : Nat := 15 - (item + value / 16 + value % 16) % 16

/-- A slow message of sixteen bits taken: checked, and if good its entry updated (R59, R60). -/
def takeMessage (k : Fin 4) (bits : List Bool) (s : State) : State :=
  let item := bitsValue (bits.take 4)
  let value := bitsValue ((bits.drop 4).take 8)
  if bitsValue (bits.drop 12) = slowCheck item value then
    judgeWatches
      (s.setHeadLink
        { s.headLink with
          housekeeping :=
            s.headLink.housekeeping.put none (16 * k.val + item)
              (some (updateEntry (s.headLink.entry k item) (BitVec.ofNat 8 value))) })
  else s

/-- The assembly of a slot moved by a report (R58). -/
def slowBit (r : SlotReport) (s : State) : State :=
  let l := s.headLink.links[r.slot]
  match r.outcome with
  | .good | .saturated =>
    if r.m then setLinkOf r.slot { l with assembly := [r.d] } s
    else if l.assembly = [] then s
    else
      let bits := l.assembly ++ [r.d]
      if bits.length = 16 then takeMessage r.slot bits (setLinkOf r.slot { l with assembly := [] } s)
      else setLinkOf r.slot { l with assembly := bits } s
  | _ => setLinkOf r.slot { l with assembly := [] } s

/-- The consecutive-bad count after an outcome (R56). -/
def badCountAfter (n : Nat) (o : FrameOutcome) : Nat := if o = .good then 0 else min 255 (n + 1)

/-- The Head Link Controller's work on a report: the count with SENSOR_FAULT, then the assembly, which may bring
HOUSEKEEPING (R55 to R58; log entry 42 for the order). -/
def linkWork (r : SlotReport) (s : State) : State :=
  let l := s.headLink.links[r.slot]
  slowBit r (judgeFaults (setLinkOf r.slot { l with badCount := badCountAfter l.badCount r.outcome } s))

/-! ### The hand-over of a report (R55) -/

/-- The Standardize Unit takes a report; a cycle that has its last collection completes (R86, R90). -/
def standardizeWork (r : SlotReport) (s : State) : State :=
  if r.outcome = .good then settleCycle (collectReport r.slot r.value s) else s

/-- A report handed to the Conversion Unit, the Standardize Unit and the link's own work, in the order in which R55
names them. No rule orders them: that HOLE or SHEET_LOST reaches the Alarm Unit first, then SENSOR_FAULT, then
HOUSEKEEPING is the model's choice (log entry 42). The report that ends the last collection of a cycle brings its
evaluation too, whose place is free (R75, log entries 6 and 7). -/
def handOver (r : SlotReport) (s : State) : State :=
  let n := s.link.eventNo
  let both (s : State) : State :=
    if r.outcome = .good && s.endsCollection r.slot r.value && Config.evaluationBeforeConversion n then
      conversionWork r (standardizeWork r s)
    else standardizeWork r (conversionWork r s)
  if r.outcome = .good && s.endsCollection r.slot r.value && Config.linkWorkBeforeEvaluation n then
    both (linkWork r s)
  else linkWork r (both s)

/-- A slot's outcome of the running period settled and handed over (R52 to R55). -/
def settleOutcome (k : Fin 4) (o : FrameOutcome) (value : Nat) (m d : Bool) (s : State) : State :=
  let seq := s.headLink.nextSeq - 1
  handOver { slot := k, seq := seq, outcome := o, value := value, m := m, d := d }
    (setLinkOf k { s.headLink.links[k] with unsettled := false, lastOutcome := some (o, seq) } s)

/-! ### Start bits and frames (R50 to R53) -/

/-- The nearer of two slots to a stray start bit; of equally near ones the earlier window (R53). -/
def HeadLink.nearer (h : HeadLink) (t : Nat) (a b : Fin 4) : Fin 4 :=
  let da := h.slots[a].distance t
  let db := h.slots[b].distance t
  if db < da || (db = da && h.slots[b].windowStart < h.slots[a].windowStart) then b else a

/-- The slot a stray is charged to: the nearest enabled unsettled one (R53). -/
def HeadLink.strayTo (h : HeadLink) (t : Nat) : Option (Fin 4) :=
  match (List.finRange 4).filter fun (k : Fin 4) => h.slots[k].enabled && h.links[k].unsettled with
  | [] => none
  | k :: rest => some (rest.foldl (h.nearer t) k)

/-- What becomes of the frame of a start bit taken at a time after the sync (R52, R53). -/
def HeadLink.receive (h : HeadLink) (t : Nat) : Reception :=
  match (List.finRange 4).find? fun (k : Fin 4) => h.slots[k].enabled && h.slots[k].inWindow t with
  | some k => if h.links[k].unsettled then .own k else .discarded
  | none =>
    match h.strayTo t with
    | some k => .stray k
    | none => .discarded

/-- A start bit: taken when no frame is in reception, a period is in force and the line is still low half a
microsecond after the fall (R50). -/
def takeStartBit (timeNs : Nat) (stillLow : Bool) (s : State) : State :=
  if s.headLink.reception.isNone && s.headLink.period.isSome && stillLow then
    s.setHeadLink { s.headLink with reception := some (s.headLink.receive timeNs) }
  else s

/-- The outcome of a complete frame by its check and status (R52). -/
def frameOutcome (bits : BitVec 25) : FrameOutcome :=
  if crc5 (bits.extractLsb' 5 20) ≠ bits.extractLsb' 0 5 then .check
  else
    match (bits.extractLsb' 21 2).toNat with
    | 0 => .good
    | 1 => .saturated
    | 2 => .warming
    | _ => .fault

/-- A frame completes: its own slot's outcome, TIMING for the slot a stray is charged to, or nothing
(R52, R53). -/
def completeFrame (bits : BitVec 25) (s : State) : State :=
  let s' := s.setHeadLink { s.headLink with reception := none }
  match s.headLink.reception with
  | some (.own k) =>
    settleOutcome k (frameOutcome bits) (bits.extractLsb' 5 16).toNat (bits.getLsbD 24) (bits.getLsbD 23) s'
  | some (.stray k) => settleOutcome k .timing 0 false false s'
  | some .discarded => s'
  | none => s

/-! ### The sync (R12, R46, R54, R163) -/

/-- The outcome a slot still unsettled gets at the closing sync (R54). -/
def closingOutcome (reception : Option Reception) (k : Fin 4) : FrameOutcome :=
  if reception = some (.own k) then .overlap else if reception = some (.stray k) then .timing else .missing

/-- One slot of the closing period settled, if it is enabled and unsettled (R54). -/
def closeSlot (reception : Option Reception) (s : State) (k : Fin 4) : State :=
  if s.headLink.slots[k].enabled && s.headLink.links[k].unsettled then
    settleOutcome k (closingOutcome reception k) 0 false false s
  else s

/-- The closing period settled, in slot order (R54; log entry 25 for the order). -/
def closePeriod (s : State) : State :=
  (List.finRange 4).foldl (closeSlot s.headLink.reception) (s.setHeadLink { s.headLink with reception := none })

/-- The history entry of a sync, joined to the ring of 16 (R12). -/
def writeHistory (seq : Word16) (s : State) : State :=
  let e : HistEntry :=
    { seq := seq, position := s.counter, shutterOpen := s.traverse.shutter
      scan := if s.traverse.state = .traversing then s.traverse.runningScan else none }
  let ring := s.position.history ++ [e]
  s.setPosition { s.position with history := ring.drop (ring.length - Config.historyEntries) }

/-- The new period opens: every enabled slot unsettled, the sequence counted on (R46). -/
def HeadLink.openPeriod (h : HeadLink) : HeadLink :=
  { h with
    nextSeq := h.nextSeq + 1
    links := tabulate 4 fun k => { h.links[k] with unsettled := h.slots[k].enabled } }

/-- A sync: the ending period closed, the new one opened, the history entry written and the dwell's syncs
counted (R46, R12, R163). -/
def takeSync (s : State) : State :=
  if s.headLink.period.isSome then
    let s := closePeriod s
    countDwellSync (writeHistory s.headLink.nextSeq (s.setHeadLink s.headLink.openPeriod))
  else s

end Sys2Proof.Machine
end

