-- ==== Sys2Proof/Machine/Replies.lean ====
section
/-! DEFINITION. What the 680 tells the host: the bodies of the single replies (Table 11-9), the readout headers
and records (Tables 11-5, 11-6) and the ranges of the readouts (R64, R140, R141, R165). An absent field is
sent as zeros (R196; log entry 27 for what R196 does not name). -/

namespace Sys2Proof.Machine

/-- One byte of a number. -/
def byte1 (n : Nat) : Byte := BitVec.ofNat 8 n

/-- Eight yes/no answers as one byte, the first in bit 0 (R196). -/
def flags (bs : List Bool) : Byte :=
  bs.zipIdx.foldl (fun (m : Byte) e => if e.1 then m ||| (1#8 <<< e.2) else m) 0

/-- A signed number in n bytes, or zeros. -/
def optInt (n : Nat) (x : Option Int) : List Byte := leInt n (x.getD 0)

/-- An unsigned number in n bytes, or zeros. -/
def optNat (n : Nat) (x : Option Nat) : List Byte := leBytes n (x.getD 0)

/-! ### IDENTIFY and STATUS (R191, R192) -/

/-- The IDENTIFY reply after its status (Table 11-9). -/
def State.identifyBody (s : State) : List Byte :=
  leBytes 2 Config.partCode ++ [byte1 Config.revision, byte1 s.link.startCause.code] ++
  fieldBytes 4 s.link.uptime ++ [byte1 (speedCode s.link.baud1 s.link.baud0)] ++ leBytes 2 Config.maxBoxes ++
  [4, 5, 16, 15, 8, 8, 16, byte1 Config.scanRecords, byte1 Config.pointBlocks, 2, byte1 Config.queueRequests] ++
  leBytes 2 Config.maxBody

/-- How many entries are in an alarm state (R179). -/
def State.countEntries (s : State) (a : AlarmState) : Nat :=
  ((List.finRange 16).filter fun (i : Fin 16) => s.alarms.entries[i].state = a).length

/-- The blocking set as its two bytes (R178). -/
def State.blockingSet (s : State) : Word16 := wordSet fun i => if h : i < 16 then s.blocks ⟨i, h⟩ else false

/-- The scan number of the published bank, 0 for none (R118). -/
def State.publishedScan (s : State) : Nat :=
  match s.profile.published with
  | some b => ((s.profile.banks[b]).map Bank.scan).getD 0
  | none => 0

/-- The readiness conditions as one byte: frame, layout, slot 0 curve, reference, all (R192). -/
def State.readinessByte (s : State) : Byte :=
  flags
    [s.position.configured, s.boxes.layout.isSome, s.slot0Curve, s.position.reference = .referenced, s.ready]

/-- The STATUS reply after its status (Table 11-9). -/
def State.statusBody (s : State) : List Byte :=
  let t := s.traverse
  [byte1 s.link.startCause.code] ++ fieldBytes 4 s.link.uptime ++
  [byte1 t.state.code, byte1 t.state.qualifier, byte1 t.state.parkCauseCode, byte1 t.state.destinationCode,
    byte1 t.scanDir.code] ++
  leInt 4 s.counter ++ [byte1 s.position.reference.code, s.readinessByte] ++ optNat 4 t.runningScan ++
  leBytes 4 s.publishedScan ++
  [byte1 s.conversion.latest.code, byte1 t.resumeAttempts, byte1 s.edges.holdoff.code,
    byte1 s.edges.lastResume.code] ++
  periodBytes s.headLink.period ++
  [byte1 (s.countEntries .clear), byte1 (s.countEntries .active), byte1 (s.countEntries .activeAcked),
    byte1 (s.countEntries .latched)] ++
  fieldBytes 2 s.blockingSet ++
  [flagByte s.alarms.alarmOut, byte1 s.link.lastError.code,
    byteSet fun i => if h : i < 4 then (s.conversion.staged[i]).isSome else false,
    flagByte s.boxes.stagedLayout.isSome,
    byteSet fun i => if h : i < 8 then (s.boxes.stagedZones[i]).isSome else false,
    byte1 s.link.queue.length]

/-! ### READ STD (R98) -/

/-- One slot record of READ STD. -/
def State.stdSlotBytes (s : State) (k : Fin 4) : List Byte :=
  let r := s.standardize.records[k]
  let c := s.headLink.slots[k]
  [byte1 k, byte1 c.kind.code, flags [r.accepted.isSome, r.lastDark.isSome, r.lastRef.isSome],
    flagByte c.enabled] ++
  (match r.accepted with
   | some a =>
     leBytes 2 a.dark ++ leBytes 2 a.ref ++ fieldBytes 4 a.acceptedAt ++
     fieldBytes 4 (s.link.uptime - a.acceptedAt)
   | none => List.replicate 12 0) ++
  leBytes 2 r.acceptedCount ++ [byte1 r.lastResult.code] ++ optNat 2 r.lastDark ++ optNat 2 r.lastRef

/-- One collection record of READ STD. -/
def collectionBytes (x : Option Collection) : List Byte :=
  match x with
  | some x => [byte1 x.state.code] ++ leBytes 2 x.darkCount ++ leBytes 2 x.refCount
  | none => List.replicate 5 0

/-- The READ STD reply after its status (Table 11-9); the seconds of the cycle: log entry 12. -/
def State.readStdBody (s : State) : List Byte :=
  let t := s.standardize
  s.stdSlotBytes 0 ++ s.stdSlotBytes 1 ++ s.stdSlotBytes 2 ++ s.stdSlotBytes 3 ++
  leBytes 2 t.scheduleCounter ++ leBytes 2 t.settings.intervalScans ++
  [(match t.pendingRequest with
    | none => 0
    | some false => 1
    | some true => 2 : Byte)] ++
  (match t.cycle with
   | some c =>
     [1, byte1 c.cause.code, flagByte c.unconditional, byte1 c.phase.code] ++
     leBytes 2 (s.link.uptime - c.startedAt).toNat ++ collectionBytes c.slots[0] ++ collectionBytes c.slots[1] ++
     collectionBytes c.slots[2] ++ collectionBytes c.slots[3]
   | none => List.replicate 26 0) ++
  [flagByte (t.expiredSlots ≠ 0), t.expiredSlots]

/-! ### READ EDGES (R157) -/

/-- One entry of the edge table; a last shift beyond its field: log entry 47. -/
def EdgeEntry.bytes (e : EdgeEntry) : List Byte :=
  [byte1 e.state.code, flags [e.find.isSome, e.find.isSome, e.shift.isSome]] ++ optInt 4 (e.find.map Prod.fst) ++
  optNat 4 (e.find.map Prod.snd) ++ signedField 4 (e.shift.getD 0)

/-- The search context; an interior bound beyond its field: log entry 47. -/
def searchBytes (c : Option SearchContext) : List Byte :=
  match c with
  | some c =>
    [1] ++ leBytes 4 c.scan ++
    [flags [c.interior.isSome, c.airSeen, c.sheetSeen, c.leading.isSome, c.lastPresent.isSome]] ++
    signedField 4 ((c.interior.map Prod.fst).getD 0) ++ signedField 4 ((c.interior.map Prod.snd).getD 0) ++
    optInt 4 c.leading ++ optInt 4 c.lastPresent ++ leBytes 2 c.holes
  | none => List.replicate 24 0

/-- The remaining time of the hold-off in ms, 0 unless it runs. -/
def Holdoff.remaining : Holdoff → Nat
  | .running n => n
  | _ => 0

/-- The READ EDGES reply after its status (Table 11-9). -/
def State.readEdgesBody (s : State) : List Byte :=
  let m := s.edges
  m.low.bytes ++ m.high.bytes ++ leBytes 2 m.presentRun ++ leBytes 2 m.absentRun ++ optInt 4 m.presentFirst ++
  optInt 4 m.absentFirst ++ [byte1 m.qualification.code] ++ searchBytes m.context ++
  [flagByte m.accepted, flagByte m.debounce.isSome, byte1 m.holdoff.code] ++ leBytes 4 m.holdoff.remaining ++
  [byte1 s.traverse.resumeAttempts, byte1 m.settings.resumeLimit, flagByte m.settings.autoresume,
    byte1 m.lastResume.code]

/-! ### READ ALARMS (R179) -/

/-- One entry of READ ALARMS. -/
def State.alarmBytes (s : State) (i : Fin 16) : List Byte :=
  alarmBody i s.alarms.entries[i] ++
  [flagByte s.alarms.entries[i].lineMark, s.alarms.sets[i].byte, fixedByte i]

/-- The READ ALARMS reply after its status (Table 11-9). -/
def State.readAlarmsBody (s : State) : List Byte :=
  ((List.finRange 16).flatMap s.alarmBytes) ++
  [flagByte s.alarms.alarmOut, flagByte s.alarms.alarmSense, flagByte s.alarms.readback.isSome] ++
  fieldBytes 2 s.blockingSet

/-! ### GET CONFIG (R193) -/

/-- The bytes of something that may be absent, behind its presence byte: absent is zeros of that length. -/
def behind (n : Nat) (x : Option (List Byte)) : List Byte :=
  match x with
  | some bytes => 1 :: bytes
  | none => 0 :: List.replicate n 0

/-- A curve behind its presence byte; an absent curve is its slot and n = 0 (Table 11-9). -/
def curveBytes (k : Fin 4) (c : Option Curve) : List Byte := flagByte c.isSome :: (curveBody k c).bytes

/-- The contents of a configuration group, as GET CONFIG returns it after the group byte; none for a group
beyond 10 (R193). -/
def State.configBytes (s : State) (group : Nat) : Option (List Byte) :=
  match group with
  | 0 => some (s.frame.body.bytes ++ [flagByte s.position.configured])
  | 1 => some (periodBytes s.headLink.period)
  | 2 => some ((List.finRange 4).flatMap fun (k : Fin 4) => (s.headLink.slots[k].body k).bytes)
  | 3 =>
    some ((List.finRange 4).flatMap fun (k : Fin 4) =>
      curveBytes k s.conversion.curves[k] ++ curveBytes k s.conversion.staged[k])
  | 4 => some s.standardize.settings.body.bytes
  | 5 =>
    some (behind 9 (s.boxes.layout.map fun l => l.body.bytes) ++
      behind 9 (s.boxes.stagedLayout.map fun l => l.body.bytes) ++ fieldBytes 2 s.boxes.generation ++
      ((List.finRange 8).flatMap fun (z : Fin 8) => (s.boxes.zones[z].body z).bytes) ++
      (List.finRange 8).flatMap fun (z : Fin 8) =>
        behind 12 ((s.boxes.stagedZones[z]).map fun x => (x.body z).bytes))
  | 6 => some (filterBody s.profile.settings (Config.channel4MinCount s.link.eventNo)).bytes
  | 7 =>
    some (s.edges.settings.body s.conversion.presenceThreshold s.conversion.absenceThreshold).bytes
  | 8 => some ((List.finRange 8).flatMap fun (w : Fin 8) => (s.headLink.watches[w].body w).bytes)
  | 9 => some ((List.finRange 16).flatMap fun (i : Fin 16) => [s.alarms.sets[i].byte, fixedByte i])
  | 10 => some [s.link.mask.byte]
  | _ => none

/-! ### Readouts: ranges of numbered records (R141, R165) -/

/-- How far a number lies after another in the order where 4,294,967,295 is followed by 1. -/
def numbersAfter (first n : Nat) : Nat := (n + 4294967295 - first) % 4294967295

/-- The records of a named range that a ring holds, by their numbers; a first number of 0 names the oldest. -/
def inRange {α : Type} (number : α → Nat) (ring : List α) (first count : Nat) : List α :=
  match ring with
  | [] => []
  | oldest :: _ =>
    let first := if first = 0 then number oldest else first
    ring.filter fun r => numbersAfter first (number r) < count

/-- The first number and the count of a run of records. -/
def runBytes {α : Type} (number : α → Nat) (run : List α) : List Byte :=
  leBytes 4 ((run.head?.map number).getD 0) ++ [byte1 run.length]

/-! ### Readout records (Table 11-6) -/

/-- L and H of a mapping in fields of n bytes; a bound beyond the three bytes of the READ PROFILE header: log entry
47. -/
def BoxMap.bounds (m : BoxMap) (n : Nat) : List Byte :=
  match m with
  | .edges low high => signedField n low ++ signedField n high
  | _ => List.replicate (2 * n) 0

/-- Whether a mapping is between edges. -/
def BoxMap.mapped : BoxMap → Bool
  | .edges _ _ => true
  | _ => false

/-- A channel part of a scan record; the variance is held at 16,777,215 (R129). -/
def ChannelPart.bytes (p : ChannelPart) : List Byte :=
  [byte1 p.channel, flags [p.average.isSome, p.rangeVariance.isSome], flagByte p.thin] ++
  leBytes 2 p.validBoxes ++ optInt 4 p.average ++ optNat 4 (p.rangeVariance.map Prod.fst) ++
  leBytes 3 (min 16777215 ((p.rangeVariance.map Prod.snd).getD 0))

/-- A scan record. -/
def ScanRecord.bytes (r : ScanRecord) : List Byte :=
  leBytes 4 r.scan ++
  [byte1 r.dir.code, flagByte r.abandoned.isSome, byte1 ((r.abandoned.map AbandonCause.code).getD 0)] ++
  leInt 4 r.startPosition ++ leInt 4 r.endPosition ++ leBytes 4 r.duration ++ fieldBytes 2 r.generation ++
  [byte1 r.layout.mode.code] ++ leBytes 2 r.layout.boxes ++ r.map.bounds 4 ++
  [flags [r.map.mapped, r.lowEdge.isSome, r.highEdge.isSome],
    flags [r.stdExpired, r.turnExtended, r.map = .unmapped]] ++
  leBytes 2 r.holes ++ optInt 4 r.lowEdge ++ optInt 4 r.highEdge ++ [byte1 r.parts.length] ++
  r.parts.flatMap ChannelPart.bytes

/-- One channel of a point block; the n of channel 4 is not stated (log entry 9). -/
def BlockChannel.bytes (eventNo : Nat) (c : BlockChannel) : List Byte :=
  [byte1 c.channel] ++
  (match c.count with
   | some n => leBytes 2 n
   | none => fieldBytes 2 (Config.channel4Count eventNo)) ++
  [flagByte c.mean.isSome] ++ optInt 4 c.mean

/-- A point block. -/
def PointBlock.bytes (eventNo : Nat) (b : PointBlock) : List Byte :=
  leBytes 4 b.block ++ leInt 4 b.position ++ leBytes 2 b.presentCount ++ [byte1 b.channels.length] ++
  b.channels.flatMap (BlockChannel.bytes eventNo)

/-- A housekeeping entry. -/
def State.hkBytes (s : State) (i : Nat) : List Byte :=
  let h := s.headLink
  let tripped := (List.finRange 8).any fun (w : Fin 8) =>
    h.tripped w && 16 * h.watches[w].slot.val + h.watches[w].item.val = i
  let e := Table.get none h.housekeeping i
  [byte1 (i / 16), byte1 (i % 16), flags [e.isSome, tripped], ((e.map HkEntry.value).getD 0)] ++
  fieldBytes 2 ((e.map HkEntry.count).getD 0)

/-- A slot summary (R65). -/
def State.slotSummary (s : State) (k : Fin 4) : List Byte :=
  let c := s.headLink.slots[k]
  let l := s.headLink.links[k]
  [byte1 k, flags [c.enabled, s.headLink.inFault k, l.lastOutcome.isSome], byte1 l.badCount, byte1 c.errorLimit,
    byte1 ((l.lastOutcome.map fun o => o.1.code).getD 0)] ++
  fieldBytes 2 ((l.lastOutcome.map Prod.snd).getD 0) ++ [byte1 l.assembly.length]

/-- A watch record (R65). -/
def State.watchRecord (s : State) (w : Fin 8) : List Byte :=
  let x := s.headLink.watches[w]
  [byte1 w, flagByte x.enabled, byte1 x.slot, byte1 x.item, byte1 x.low, byte1 x.high, flagByte (s.headLink.tripped w)]

/-! ### Readout headers (Table 11-5) -/

/-- The READ PROFILE header of a bank and a channel for a clamped range; the mapped bit of a FIXED layout is
not stated (log entry 41). -/
def Bank.header (b : Bank) (eventNo : Nat) (channel : Fin 5) (first count : Nat) : List Byte :=
  let c := b.channels[channel]
  let mapped :=
    match b.map with
    | .fixed => Config.fixedMapped eventNo
    | m => m.mapped
  leBytes 4 b.scan ++ fieldBytes 2 b.generation ++
  [flags [b.dir = .rev, b.layout.mode = .edge, mapped, c.isSome, c.any BankChannel.thin,
      c.any fun x => x.average.isSome],
    byte1 ((c.map BankChannel.age).getD 0)] ++
  b.map.bounds 3 ++ optInt 3 (c.bind BankChannel.average) ++
  leBytes 5
    (b.layout.boxes + 1024 * (c.map BankChannel.validBoxes).getD 0 + 1048576 * first + 1073741824 * count)

/-- A box of a profile readout: F in the FILTERED form, S for a VALID box and 0 for others in the SCAN form
(R140). -/
def BankBox.bytes (scanForm : Bool) (b : BankBox) : List Byte :=
  leInt 3 (if scanForm then (if b.state = .valid then b.scanValue.getD 0 else 0) else b.filtered) ++
  [byte1 b.state.code]

/-- The READ POINT header for a run of blocks. -/
def State.pointHeader (s : State) (run : List PointBlock) : List Byte :=
  (match s.point.dwell with
   | .none => List.replicate 17 0
   | .opened d =>
     [1] ++ leInt 4 d.target ++ leBytes 2 d.blockLength ++ optNat 2 d.pendingLength ++ leBytes 4 d.block ++
     leBytes 2 d.syncs ++ [0, d.channels]
   | .ended target cause channels =>
     [2] ++ leInt 4 target ++ List.replicate 10 0 ++ [byte1 cause.code, channels]) ++
  runBytes PointBlock.block run

/-- The READ HOUSEKEEPING header for a clamped range. -/
def State.hkHeader (s : State) (first count : Nat) : List Byte :=
  [byte1 first, byte1 count] ++ (List.finRange 4).flatMap s.slotSummary ++ (List.finRange 8).flatMap s.watchRecord

/-! ### Chunks (R187) -/

/-- As many whole records as fit, and the rest. -/
def fitRecords : Nat → List (List Byte) → List Byte × List (List Byte)
  | _, [] => ([], [])
  | room, r :: rest =>
    if r.length ≤ room then
      let p := fitRecords (room - r.length) rest
      (r ++ p.1, p.2)
    else ([], r :: rest)

/-- The boxes of a channel of the held bank in a range, as bytes (R187). -/
def State.heldBoxes (s : State) (channel : Nat) (scanForm : Bool) (first count : Nat) : List Byte :=
  match s.profile.held with
  | none => []
  | some h =>
    match (s.profile.banks[h]).bind fun b => b.channels[channel]?.join with
    | none => []
    | some c => ((c.boxes.drop first).take count).flatMap (BankBox.bytes scanForm)

/-- The records of the next chunk and what is left after it (R187). -/
def ReadoutSource.next (src : ReadoutSource) (s : State) : List Byte × ReadoutSource :=
  match src with
  | .records rest =>
    let p := fitRecords Config.chunkBytes rest
    (p.1, .records p.2)
  | .profile channel scanForm first count =>
    let n := min Config.boxesPerChunk count
    (s.heldBoxes channel scanForm first n, .profile channel scanForm (first + n) (count - n))

/-- Whether no record is left (R187). -/
def ReadoutSource.done : ReadoutSource → Bool
  | .records rest => rest.isEmpty
  | .profile _ _ _ count => count = 0

/-- The body of a chunk: status OK, the chunk byte, and its content (Table 11-4). -/
def chunkBody (number : Nat) (last : Bool) (content : List Byte) : List Byte :=
  [byte1 Status.ok.code, byte1 (number % 128 + (if last then 128 else 0))] ++ content

end Sys2Proof.Machine
end

