-- ==== Sys2Proof/Machine/Requests.lean ====
section
/-! DEFINITION. What each request does, as its owning block answers it at dispatch: a handler takes the state
to an answer and the state after it (R186). The body is the request's, of the right length. -/

namespace Sys2Proof.Machine

/-- What an owning block answers: a reply with its status and the body that follows it, or a readout with the
content of its first chunk and the source of the rest (R187). -/
inductive Answer where
  | reply (status : Status) (body : List Byte)
  | readout (first : List Byte) (source : ReadoutSource)
deriving DecidableEq, Repr

/-- A request's handler. -/
abbrev Handler := State → Answer × State

/-- A status alone, with the state after the request. -/
def reply (st : Status) (s : State) : Answer × State := (.reply st [], s)

/-! ### Link requests -/

/-- IDENTIFY (R191). -/
def handleIdentify : Handler := fun s => (.reply .ok s.identifyBody, s)

/-- STATUS (R192). -/
def handleStatus : Handler := fun s => (.reply .ok s.statusBody, s)

/-- SET NOTICES: the mask replaced, queued notices of kinds now disabled removed (R190). -/
def handleSetNotices (mask : Byte) : Handler := fun s =>
  match readMask mask with
  | none => reply .invalid s
  | some m =>
    (.reply .ok [m.byte],
      s.setLink { s.link with mask := m, notices := s.link.notices.filter fun n => m.enables n.key })

/-- GET CONFIG (R193). -/
def handleGetConfig (group : Byte) : Handler := fun s =>
  match s.configBytes group.toNat with
  | none => reply .invalid s
  | some bytes => (.reply .ok (group :: bytes), s)

/-! ### Traverse requests -/

/-- HOME taken: DISCARD, DRV_EN, HOMING held by host, the move timer (R35). -/
def beginHoming (s : State) : State :=
  let s := discardReference s
  enter (.homing (if s.position.homeSw then .leave else .seek)) (some .host)
    (s.setTraverse { s.traverse with moveTimer := some s.frame.moveTimeout })

/-- HOME (R35): state, then frame, then blocking. -/
def handleHome : Handler := fun s =>
  if !s.traverse.state.settable then reply .state s
  else if !s.position.configured then reply .state s
  else if s.blocked then reply .blocked s
  else reply .accepted (beginHoming s)

/-- The resume attempts set to 0 (R37). -/
def clearAttempts (s : State) : State := s.setTraverse { s.traverse with resumeAttempts := 0 }

/-- START taken from rest or from a move it replaces: the approach, a break resume from a break park, a dwell
ended (R37, R127, R164). -/
def startApproach (s : State) : State :=
  let old := s.traverse.state
  let s := if old = .parked .brk then breakResume s else s
  endRunning old .host .start (approach .host (clearAttempts s))

/-- START by the traverse state (R37). -/
def startByState (s : State) : Answer × State :=
  match s.traverse.state with
  | .unreferenced | .homing _ | .halted _ => reply .state s
  | .traversing | .reversing => reply .ok (clearAttempts s)
  | .standardizing .park => reply .accepted (clearAttempts (relabel (.standardizing .turnLow) (some .host) s))
  | .standardizing _ => reply .ok (clearAttempts s)
  | .parked _ | .dwelling => reply .accepted (startApproach s)
  | .positioning m =>
    if s.traverse.holder = some .park then reply .state s
    else
      match m.purpose with
      | .toStd .park =>
        reply .accepted
          (clearAttempts (relabel (.positioning { m with purpose := .toStd .turnLow }) (some .host) s))
      | .toStd _ | .toTurn _ _ => reply .ok (clearAttempts s)
      | .toPark _ | .toPoint _ => reply .accepted (startApproach s)

/-- START: readiness, then blocking, then the state (R37). -/
def handleStart : Handler := fun s =>
  if !s.ready then reply .state s
  else if s.blocked then reply .blocked s
  else startByState s

/-- STOP of what runs: the move to park with cause HOST, and the end of what ran (R38). -/
def stopRunning (s : State) : State :=
  let old := s.traverse.state
  endRunning old .host .stop (beginPark .host .host s)

/-- STOP (R38); a move to park held by host or scan program takes cause HOST and keeps its target (log
entry 22). -/
def handleStop : Handler := fun s =>
  match s.traverse.state with
  | .unreferenced | .parked _ => reply .ok s
  | .homing _ => reply .ok (endHoming s)
  | .halted _ =>
    if s.blocked then reply .blocked s
    else if s.position.reference = .referenced then reply .accepted (beginPark .host .host s)
    else reply .ok (enter .unreferenced none s)
  | .positioning m =>
    if s.traverse.holder = some .park then reply .ok s
    else
      match m.purpose with
      | .toPark _ => reply .accepted (relabel (.positioning { m with purpose := .toPark .host }) (some .host) s)
      | _ => reply .accepted (stopRunning s)
  | _ => reply .accepted (stopRunning s)

/-- A move TO_POINT begun, and the end of what ran (R159). -/
def beginPoint (p : Int) (blockLength : Nat) (s : State) : State :=
  let old := s.traverse.state
  endRunning old .host .point (beginMove (.toPoint blockLength) p (some .host) s)

/-- Whether the open dwell stands at a position. -/
def Dwell.isAt (d : Dwell) (p : Int) : Bool :=
  match d with
  | .opened d => d.target = p
  | _ => false

/-- POINT by the traverse state (R159, R160). -/
def pointByState (p : Int) (blockLength : Nat) (s : State) : Answer × State :=
  match s.traverse.state with
  | .unreferenced | .homing _ | .halted _ => reply .state s
  | .positioning _ =>
    if s.traverse.holder = some .park then reply .state s else reply .accepted (beginPoint p blockLength s)
  | .dwelling =>
    if s.point.dwell.isAt p then reply .ok (pendLength blockLength s)
    else reply .accepted (beginPoint p blockLength s)
  | _ => reply .accepted (beginPoint p blockLength s)

/-- POINT: validity, readiness, blocking, then the state (R159). -/
def handlePoint (position : Word32) (blockLength : Word16) : Handler := fun s =>
  let p := position.toInt
  if !(decide ((s.frame.travelMin : Int) ≤ p ∧ p ≤ s.frame.travelMax) && within 1 1000 blockLength.toNat) then
    reply .invalid s
  else if !s.ready then reply .state s
  else if s.blocked then reply .blocked s
  else pointByState p blockLength.toNat s

/-- STANDARDIZE by the traverse state (R94). -/
def standardizeByState (u : Bool) (s : State) : Answer × State :=
  match s.traverse.state with
  | .unreferenced | .halted _ | .homing _ | .dwelling => reply .state s
  | .parked _ =>
    if s.anyCurve then
      reply .accepted (beginMove (.toStd .park) s.frame.stdPosition (some .host) (requestStandardize u s))
    else reply .state s
  | .traversing | .reversing => reply .accepted (requestStandardize u s)
  | .standardizing _ => reply .ok s
  | .positioning m =>
    match m.purpose with
    | .toPark _ | .toPoint _ => reply .state s
    | .toTurn _ _ => reply .accepted (requestStandardize u s)
    | .toStd _ => reply .ok (requestStandardize u s)

/-- STANDARDIZE (R94); the option byte is checked first (log entry 26). -/
def handleStandardize (unconditional : Byte) : Handler := fun s =>
  match readFlag unconditional with
  | none => reply .invalid s
  | some u => standardizeByState u s

/-! ### Settings of the frame and the head link -/

/-- An accepted frame configuration: the whole replaced, the frame configured, and the reference discarded
with its report when home_position or enc_dir changes or the frame was not configured (R9, R11). -/
def applyFrame (f : FrameConfig) (s : State) : State :=
  let discards := f.homePosition ≠ s.frame.homePosition || f.encDir ≠ s.frame.encDir || !s.position.configured
  let report := discards && s.position.reference ≠ .unknown
  let s :=
    s.setPosition
      { s.position with
        frame := f, configured := true
        reference := if discards then .unknown else s.position.reference }
  if report then loseReference s else s

/-- SET FRAME: state, then the whole of its checks (R9). -/
def handleSetFrame (b : FrameBody) : Handler := fun s =>
  if !s.traverse.state.settable then reply .state s
  else
    match b.check with
    | none => reply .invalid s
    | some f => reply .ok (applyFrame f s)

/-- Whether every enabled slot's window ends 20 µs before the next sync (R47). -/
def State.windowsFit (s : State) (period : Option Nat) : Bool :=
  match period with
  | none => true
  | some p =>
    (List.finRange 4).all fun (k : Fin 4) =>
      let c := s.headLink.slots[k]
      !c.enabled || c.windowStart + c.windowLength + 20 ≤ p

/-- A change of the sample period (R15, R47). -/
def applyPeriod (period : Option Nat) (s : State) : State :=
  let h := s.headLink
  let s := s.setPosition { s.position with history := [] }
  judgeFaults
    (s.setHeadLink { h with period := period, reception := none, links := Vector.replicate 4 SlotLink.cold })

/-- SET LINK: state, then validity; the period in force repeated changes nothing (R47). -/
def handleSetLink (samplePeriod : Word16) : Handler := fun s =>
  if !s.traverse.state.settable then reply .state s
  else
    match readPeriod samplePeriod with
    | none => reply .invalid s
    | some period =>
      if !s.windowsFit period then reply .invalid s
      else if period = s.headLink.period then reply .ok s
      else reply .ok (applyPeriod period s)

/-- Items 3 to 5 of R48: at most one WATER slot, no shared instant, the window within the period. -/
def State.slotFits (s : State) (k : Fin 4) (c : SlotConfig) : Bool :=
  let others := (List.finRange 4).filter fun (j : Fin 4) => j ≠ k
  (c.kind ≠ .water || others.all fun (j : Fin 4) => s.headLink.slots[j].kind ≠ .water) &&
  (!c.enabled ||
    (others.all (fun (j : Fin 4) => !s.headLink.slots[j].enabled || !c.overlaps s.headLink.slots[j]) &&
      decide (c.windowStart + c.windowLength + 20 ≤ s.headLink.period.getD 4000)))

/-- The reception after a slot's window changes: a frame of the slot is dropped (R49; log entry 23). -/
def dropReception (r : Option Reception) (k : Fin 4) : Option Reception :=
  if r = some (.own k) ∨ r = some (.stray k) then none else r

/-- An accepted SET SLOT (R49, R57, R62, R80); SENSOR_FAULT is judged before HOUSEKEEPING (log entry 42). -/
def applySlot (k : Fin 4) (c : SlotConfig) (s : State) : State :=
  let h := s.headLink
  let old := h.slots[k]
  let switched := old.enabled ≠ c.enabled
  let moved := switched || old.windowStart ≠ c.windowStart || old.windowLength ≠ c.windowLength
  let l := h.links[k]
  let link : SlotLink :=
    if moved then
      { unsettled := false, badCount := 0, assembly := [], lastOutcome := if switched then none else l.lastOutcome }
    else l
  let s :=
    s.setHeadLink
      { h with
        slots := h.slots.set k c, links := h.links.set k link
        reception := if moved then dropReception h.reception k else h.reception }
  let s := judgeWatches (judgeFaults s)
  if k = 0 && switched && !c.enabled then s.setConversion { s.conversion with latest := .unknown } else s

/-- SET SLOT: state, then validity (R48). -/
def handleSetSlot (b : SlotBody) : Handler := fun s =>
  if !s.traverse.state.settable then reply .state s
  else
    match b.check with
    | none => reply .invalid s
    | some (k, c) => if s.slotFits k c then reply .ok (applySlot k c s) else reply .invalid s

/-- SET WATCH (R61). -/
def handleSetWatch (b : WatchBody) : Handler := fun s =>
  match b.check with
  | none => reply .invalid s
  | some (w, x) =>
    reply .ok (judgeWatches (s.setHeadLink { s.headLink with watches := s.headLink.watches.set w x }))

/-! ### Settings of the sample path -/

/-- SET CURVE: validity, then applied or staged (R71, R72). -/
def handleSetCurve (b : CurveBody) : Handler := fun s =>
  match b.check with
  | none => reply .invalid s
  | some (k, c) =>
    if s.traverse.state.staging then
      reply .staged (s.setConversion { s.conversion with staged := s.conversion.staged.set k (some c) })
    else reply .ok (applyCurve k c s)

/-- SET STD (R83). -/
def handleSetStd (b : StdBody) : Handler := fun s =>
  match b.check with
  | none => reply .invalid s
  | some t => reply .ok (s.setStandardize { s.standardize with settings := t })

/-- SET LAYOUT: validity, then applied or staged (R103, R104). -/
def handleSetLayout (b : LayoutBody) : Handler := fun s =>
  match b.check with
  | none => reply .invalid s
  | some l =>
    if s.traverse.state.staging then reply .staged (s.setBoxes { s.boxes with stagedLayout := some l })
    else reply .ok (applyLayout l s)

/-- SET ZONE: validity, then applied or staged (R106, R107). -/
def handleSetZone (b : ZoneBody) : Handler := fun s =>
  match b.check with
  | none => reply .invalid s
  | some (z, x) =>
    if s.traverse.state.staging then
      reply .staged (s.setBoxes { s.boxes with stagedZones := s.boxes.stagedZones.set z (some x) })
    else
      reply .ok
        (s.setBoxes { s.boxes with zones := s.boxes.zones.set z x, stagedZones := s.boxes.stagedZones.set z none })

/-- SET FILTER: the reply carries the values applied (R130). -/
def handleSetFilter (b : FilterBody) : Handler := fun s =>
  match b.check with
  | none => reply .invalid s
  | some t =>
    (.reply .ok (filterBody t (Config.channel4MinCount s.link.eventNo)).bytes,
      s.setProfile { s.profile with settings := t })

/-- SET SHEET: the thresholds to the Conversion Unit, the rest to the monitor (R76, R143). -/
def handleSetSheet (b : SheetBody) : Handler := fun s =>
  match b.check with
  | none => reply .invalid s
  | some (presence, absence, t) =>
    reply .ok
      ((s.setConversion
          { s.conversion with presenceThreshold := presence, absenceThreshold := absence }).setEdges
        { s.edges with settings := t })

/-! ### Alarm requests -/

/-- Whether a reaction set holds what a source's must hold and nothing it may not (R171, Table 10-1). -/
def setPermitted (i : Fin 16) (r : Reactions) : Bool := (!haltFixed i || r.halt) && !(lineForbidden i && r.line)

/-- A reaction set replaced; LINE removed clears the entry's mark and ALARM_OUT is judged anew (R171). -/
def applyReactions (i : Fin 16) (r : Reactions) (s : State) : State :=
  let s := s.setAlarms { s.alarms with sets := s.alarms.sets.set i r }
  if r.line then s
  else judgeLine (setEntry i { s.alarms.entries[i] with lineMark := false } s)

/-- SET ALARM (R171). -/
def handleSetAlarm (source reactions : Byte) : Handler := fun s =>
  match readSource source, readReactions reactions with
  | some i, some r =>
    if setPermitted i r then (.reply .ok [source, r.byte], applyReactions i r s) else reply .invalid s
  | _, _ => reply .invalid s

/-- The state of an entry as a byte. -/
def State.entryByte (s : State) (i : Fin 16) : Byte := byte1 s.alarms.entries[i].state.code

/-- Every source acknowledged (R176), in source order and with ALARM_OUT judged after each entry moved: R176 gives no
order (log entry 46). -/
def ackAll (s : State) : State := (List.finRange 16).foldl (fun s i => ackSource i s) s

/-- ACK of one source, or of ALL by 255 (R176). -/
def handleAck (source : Byte) : Handler := fun s =>
  if source = 255 then
    let s := ackAll s
    (.reply .ok ((List.finRange 16).map s.entryByte), s)
  else
    match readSource source with
    | none => reply .invalid s
    | some i =>
      let s := ackSource i s
      (.reply .ok [s.entryByte i], s)

/-- DRILL (R177). -/
def handleDrill (source : Byte) : Handler := fun s =>
  match readSource source with
  | none => reply .invalid s
  | some i =>
    let s := raiseDrill i s
    (.reply .ok [s.entryByte i], s)

/-! ### Readings -/

/-- READ STD (R98). -/
def handleReadStd : Handler := fun s => (.reply .ok s.readStdBody, s)

/-- READ EDGES (R157). -/
def handleReadEdges : Handler := fun s => (.reply .ok s.readEdgesBody, s)

/-- READ ALARMS (R179). -/
def handleReadAlarms : Handler := fun s => (.reply .ok s.readAlarmsBody, s)

/-- A readout whose first chunk holds a header and as many records as fit (R187). -/
def recordReadout (header : List Byte) (records : List (List Byte)) : Answer :=
  let p := fitRecords Config.chunkBytes records
  .readout (header ++ p.1) (.records p.2)

/-- The clamped first box and count of a profile readout (R140). -/
def clampBoxes (n first count : Nat) : Nat × Nat := (min first n, min count (n - min first n))

/-- READ PROFILE: validity, then publication; the published bank is held (R136, R140). -/
def handleReadProfile (channel form : Byte) (firstBox count : Word16) : Handler := fun s =>
  if h : channel.toNat < 5 ∧ form.toNat < 2 then
    match s.profile.published with
    | none => reply .state s
    | some w =>
      match s.profile.banks[w] with
      | none => reply .state s
      | some bank =>
        let c : Fin 5 := ⟨channel.toNat, h.1⟩
        let range := clampBoxes bank.layout.boxes firstBox.toNat count.toNat
        let n := if (bank.channels[c]).isSome then range.2 else 0
        let s := s.setProfile { s.profile with held := some w }
        let chunk := (ReadoutSource.profile channel.toNat (form = 1) range.1 n).next s
        (.readout (bank.header s.link.eventNo c range.1 n ++ chunk.1) chunk.2, s)
  else reply .invalid s

/-- READ HISTORY: a count above 32 is applied as 32 (R141). -/
def handleReadHistory (first : Word32) (count : Byte) : Handler := fun s =>
  let run := inRange ScanRecord.scan s.profile.history first.toNat (min count.toNat Config.scanRecords)
  (recordReadout (runBytes ScanRecord.scan run) (run.map ScanRecord.bytes), s)

/-- READ POINT: a count above 64 is applied as 64 (R165). -/
def handleReadPoint (first : Word32) (count : Byte) : Handler := fun s =>
  let run := inRange PointBlock.block s.point.ring first.toNat (min count.toNat Config.pointBlocks)
  (recordReadout (s.pointHeader run) (run.map (PointBlock.bytes s.link.eventNo)), s)

/-- READ HOUSEKEEPING: the range clamped to the 64 entries (R64). -/
def handleReadHousekeeping (first count : Byte) : Handler := fun s =>
  let f := min first.toNat 64
  let n := min count.toNat (64 - f)
  (recordReadout (s.hkHeader f n) ((List.range n).map fun i => s.hkBytes (f + i)), s)

end Sys2Proof.Machine
end

