-- ==== Sys2Proof/Machine/Link.lean ====
section
/-! DEFINITION. The Link Controller (chapter 11): the receive assembler, the queue with its refusals, dispatch
by kind and length, the transmitter, and the two resets (R16, R194). -/

namespace Sys2Proof.Machine

/-! ### Answers (R184, R186, R187) -/

/-- An answer placed: the reply in the dispatch slot, or the readout in flight; OK and ACCEPTED clear the last
link error (R184, R186, R187). -/
def placeAnswer (kind tag : Byte) (p : Answer × State) : State :=
  let l := p.2.link
  match p.1 with
  | .reply st body =>
    p.2.setLink
      { l with
        slot := some
          { message := { kind := kind + 0x80, tag := tag, body := byte1 st.code :: body }, ready := l.eventNo }
        lastError := if st = .ok ∨ st = .accepted then .none else l.lastError }
  | .readout first source =>
    p.2.setLink
      { l with
        readout := some
          { kind := kind + 0x80, tag := tag, next := 0, first := some first, source := source, ready := l.eventNo }
        lastError := .none }

/-! ### The request kinds (Table 11-11) -/

/-- The length a request kind's body must have; for SET CURVE it follows from the n in the body. None for a
kind that is no request's (R186). -/
def requestLength (kind : Byte) (body : List Byte) : Option Nat :=
  match kind.toNat with
  | 0x01 => some 0
  | 0x02 => some 0
  | 0x03 => some 0
  | 0x04 => some 1
  | 0x05 => some 1
  | 0x10 => some 0
  | 0x11 => some 0
  | 0x12 => some 0
  | 0x13 => some 6
  | 0x14 => some 1
  | 0x20 => some 46
  | 0x21 => some 2
  | 0x22 => some 9
  | 0x23 => some (2 + 5 * curveCount body)
  | 0x24 => some 32
  | 0x25 => some 9
  | 0x26 => some 12
  | 0x27 => some 25
  | 0x28 => some 22
  | 0x29 => some 6
  | 0x2A => some 2
  | 0x30 => some 6
  | 0x31 => some 5
  | 0x32 => some 5
  | 0x33 => some 2
  | 0x34 => some 0
  | 0x35 => some 0
  | 0x36 => some 0
  | 0x38 => some 1
  | 0x39 => some 1
  | _ => none

/-- The owner's handler of a request of a known kind and a right length. RESTART is taken at its arrival and
never dispatched (R185, R194). -/
def handlerOf (kind : Byte) (body : List Byte) : Handler :=
  match kind.toNat with
  | 0x01 => handleIdentify
  | 0x02 => handleStatus
  | 0x04 => handleSetNotices (readField 8 body 0 1)
  | 0x05 => handleGetConfig (readField 8 body 0 1)
  | 0x10 => handleHome
  | 0x11 => handleStart
  | 0x12 => handleStop
  | 0x13 => handlePoint (readField 32 body 0 4) (readField 16 body 4 2)
  | 0x14 => handleStandardize (readField 8 body 0 1)
  | 0x20 => handleSetFrame (FrameBody.ofBytes body)
  | 0x21 => handleSetLink (readField 16 body 0 2)
  | 0x22 => handleSetSlot (SlotBody.ofBytes body)
  | 0x23 => handleSetCurve (CurveBody.ofBytes body)
  | 0x24 => handleSetStd (StdBody.ofBytes body)
  | 0x25 => handleSetLayout (LayoutBody.ofBytes body)
  | 0x26 => handleSetZone (ZoneBody.ofBytes body)
  | 0x27 => handleSetFilter (FilterBody.ofBytes body)
  | 0x28 => handleSetSheet (SheetBody.ofBytes body)
  | 0x29 => handleSetWatch (WatchBody.ofBytes body)
  | 0x2A => handleSetAlarm (readField 8 body 0 1) (readField 8 body 1 1)
  | 0x30 =>
    handleReadProfile (readField 8 body 0 1) (readField 8 body 1 1) (readField 16 body 2 2) (readField 16 body 4 2)
  | 0x31 => handleReadHistory (readField 32 body 0 4) (readField 8 body 4 1)
  | 0x32 => handleReadPoint (readField 32 body 0 4) (readField 8 body 4 1)
  | 0x33 => handleReadHousekeeping (readField 8 body 0 1) (readField 8 body 1 1)
  | 0x34 => handleReadStd
  | 0x35 => handleReadEdges
  | 0x36 => handleReadAlarms
  | 0x38 => handleAck (readField 8 body 0 1)
  | 0x39 => handleDrill (readField 8 body 0 1)
  | _ => reply .unknown

/-- The judgement of a dispatched request: kind, then length, then its owner (R186). -/
def judgeRequest (m : Message) : Handler := fun s =>
  match requestLength m.kind m.body with
  | none => reply .unknown s
  | some n => if m.body.length = n ∧ m.kind ≠ 0x03 then handlerOf m.kind m.body s else reply .malformed s

/-- The oldest request dispatched and answered, when the dispatch slot is empty and no readout is in flight
(R186). -/
def dispatch (s : State) : State :=
  match s.link.queue with
  | [] => s
  | m :: rest =>
    if s.canDispatch then placeAnswer m.kind m.tag (judgeRequest m (s.setLink { s.link with queue := rest })) else s

/-! ### The resets (R16, R45, R66, R82, R99, R117, R142, R158, R166, R180, R195) -/

/-- What the end of either reset takes: an asserted limit line (R39), an asserted break line (R158), and an
ALARM_SENSE that differs (R180). Log entry 38 for the order. -/
def endReset (s : State) : State :=
  let s := if s.traverse.limitLo || s.traverse.limitHi then judgeLimits (takeHalt .limit s) else s
  let s := s.setEdges s.edges.debounceNow
  judgeReadback s

/-- The state after a cold reset with the pin levels as it ends; the queue of commands and the event number
stand. -/
def coldReset (cause : ColdCause) (pins : ResetPins) (s : State) : State :=
  endReset
    { State.reset with
      pending := s.pending
      position :=
        { PositionUnit.cold with
          encA := pins.encA, encB := pins.encB, indexAsserted := pins.encI, homeSw := pins.homeSw }
      traverse :=
        { Traverse.cold with drvReady := pins.drvReady, limitLo := pins.limitLo, limitHi := pins.limitHi }
      edges := { EdgeMonitor.cold with breakIn := pins.breakIn }
      alarms := { AlarmUnit.cold with alarmSense := pins.alarmSense }
      link :=
        { LinkController.cold with
          baud1 := pins.baud1, baud0 := pins.baud0, eventNo := s.link.eventNo
          startCause :=
            match cause with
            | .power => .power
            | .pin => .pin } }

/-- The Position Unit at a warm reset (Table 1-10). -/
def PositionUnit.warm (p : PositionUnit) : PositionUnit := { p with captureArmed := false, history := [] }

/-- The Traverse Controller at a warm reset, after its HALT claim (R45, Table 2-4). -/
def Traverse.warm (t : Traverse) (referenced : Bool) : Traverse :=
  { t with
    state := if referenced then .halted .restart else .unreferenced
    holder := if referenced then some .halt else none
    speed := 0, duty := 0, drvEn := false, shutter := false, runningScan := none, turnPoint := none
    detour := false, dwellTimer := none, moveTimer := none, stallTimer := 0, readyWatch := none
    driveFault := false, resumeAttempts := 0 }

/-- The Head Link Controller at a warm reset (Table 3-6). -/
def HeadLink.warm (h : HeadLink) : HeadLink :=
  { h with
    links := Vector.replicate 4 SlotLink.cold, reception := none, housekeeping := [], faultSlots := 0
    trippedWatches := 0 }

/-- The Conversion Unit at a warm reset (Table 4-2). -/
def Conversion.warm (c : Conversion) : Conversion := { c with hysteresisPresent := false, latest := .unknown }

/-- The Standardize Unit at a warm reset (Table 5-4). -/
def Standardize.warm (t : Standardize) : Standardize :=
  { t with pendingRequest := none, cycle := none, expiredSlots := 0 }

/-- The Box Accumulator at a warm reset (Table 6-4). -/
def BoxAccumulator.warm (b : BoxAccumulator) : BoxAccumulator :=
  { b with context := none, accumulators := Vector.replicate 4 [] }

/-- The Profile Unit at a warm reset; the record of a scan the reset abandoned stands alone (Table 7-6). -/
def ProfileUnit.warm (p : ProfileUnit) (abandoned : Bool) : ProfileUnit :=
  { ProfileUnit.cold with
    nextScan := p.nextScan, settings := p.settings
    history := if abandoned then p.history.drop (p.history.length - 1) else [] }

/-- The Edge and Break Monitor at a warm reset (Table 8-4). -/
def EdgeMonitor.warm (m : EdgeMonitor) : EdgeMonitor :=
  { EdgeMonitor.cold with settings := m.settings, low := m.low, high := m.high, breakIn := m.breakIn }

/-- The Alarm Unit at a warm reset (Table 10-3). -/
def AlarmUnit.warm (a : AlarmUnit) : AlarmUnit :=
  { AlarmUnit.cold with sets := a.sets, alarmSense := a.alarmSense }

/-- The Link Controller at a warm reset, before the RESTART reply (R194, Table 11-2). -/
def LinkController.warm (l : LinkController) : LinkController :=
  { l with
    queue := [], slot := none, refusal := none, readout := none, notices := [], lastError := .none
    startCause := .restart, transmitting := none }

/-- Every block at its warm reset, after the HALT claim of RESTART (R45); `scanned` says whether that claim
abandoned a scan. -/
def warmBlocks (scanned : Bool) (s : State) : State where
  position := s.position.warm
  traverse := s.traverse.warm (s.position.reference = .referenced)
  headLink := s.headLink.warm
  conversion := s.conversion.warm
  standardize := s.standardize.warm
  boxes := s.boxes.warm
  profile := s.profile.warm scanned
  edges := s.edges.warm
  point := PointRecorder.cold
  alarms := s.alarms.warm
  link := s.link.warm
  pending := s.pending

/-- The RESTART reply in the dispatch slot (R194). -/
def placeRestart (tag : Byte) (s : State) : State :=
  placeAnswer 0x03 tag
    (.reply .ok (byte1 s.link.startCause.code :: fieldBytes 4 s.link.uptime), s)

/-- The warm reset that RESTART makes (R194): the HALT claim of RESTART, every block's reset, what the end of
the reset takes, and the reply. -/
def warmReset (tag : Byte) (s : State) : State :=
  placeRestart tag (endReset (warmBlocks (s.traverse.state = .traversing) (takeHalt .restart s)))

/-! ### Arrival (R185) -/

/-- A good frame that is no RESTART: joined to the queue, refused with BUSY, or discarded with OVERRUN
(R185). -/
def joinQueue (m : Message) (s : State) : State :=
  let l := s.link
  if l.queue.length < Config.queueRequests then s.setLink { l with queue := l.queue ++ [m] }
  else if l.refusal.isNone then
    s.setLink
      { l with
        refusal := some
          { message := { kind := m.kind + 0x80, tag := m.tag, body := [byte1 Status.busy.code] }
            ready := l.eventNo } }
  else s.setLink { l with lastError := .overrun }

/-- A good frame arrives (R185): RESTART with an empty body is taken at once. -/
def arrive (m : Message) (s : State) : State :=
  if m.kind = 0x03 ∧ m.body = [] then warmReset m.tag s else joinQueue m s

/-- A request command: dispatched at once when nothing waits before it, else it waits as its frame would; a
body that no frame holds is discarded as its frame would be (R182, R185, R186; log entry 4). -/
def requestStep (kind tag : Byte) (body : List Byte) (h : Handler) (s : State) : State :=
  if Config.maxBody < body.length then s.setLink { s.link with lastError := .length }
  else if s.canDispatch && s.link.queue.isEmpty then placeAnswer kind tag (h s)
  else joinQueue { kind := kind, tag := tag, body := body } s

/-! ### The receive assembler (R182, R183) -/

/-- The assembler in another state. -/
def setRx (x : RxState) (s : State) : State := s.setLink { s.link with rx := x }

/-- A frame discarded with its link error (R184). -/
def discardFrame (e : LinkError) (x : RxState) (s : State) : State :=
  s.setLink { s.link with rx := x, lastError := e }

/-- The body length that four content bytes carry. -/
def bodyLength (content : List Byte) : Nat := fieldAt content 2 2

/-- A complete frame: checked, and a good one taken as a request (R183, R185). -/
def completeContent (content : List Byte) (s : State) : State :=
  let n := bodyLength content
  if (crc16 (content.take (4 + n))).toNat = fieldAt content (4 + n) 2 then
    arrive
      { kind := readField 8 content 0 1, tag := readField 8 content 1 1, body := (content.drop 4).take n }
      (setRx .hunt s)
  else discardFrame .check .hunt s

/-- A content byte appended (R182). -/
def appendContent (content : List Byte) (b : Byte) (s : State) : State :=
  let content := content ++ [b]
  if content.length = 4 ∧ Config.maxBody < bodyLength content then discardFrame .length .hunt s
  else if 4 ≤ content.length ∧ content.length = 6 + bodyLength content then completeContent content s
  else setRx (.content content) s

/-- The delimiter begins a frame; a partial frame before it is SHORT (R182). -/
def takeDelimiter (s : State) : State :=
  match s.link.rx with
  | .hunt | .content [] => setRx (.content []) s
  | _ => discardFrame .short (.content []) s

/-- A byte or a framing fault taken by the assembler (R182). -/
def receive (input : RxInput) (s : State) : State :=
  match input, s.link.rx with
  | .framingFault, .hunt => s
  | .framingFault, _ => discardFrame .framing .hunt s
  | .byte b, .hunt => if b = 0xF0 then takeDelimiter s else s
  | .byte b, .content content =>
    if b = 0xF0 then takeDelimiter s
    else if b = 0xF1 then setRx (.escape content) s
    else appendContent content b s
  | .byte b, .escape content =>
    if b = 0xF0 then takeDelimiter s
    else if b = 0xF1 then discardFrame .escape .hunt s
    else appendContent content (b ^^^ 0x20) s

/-! ### The transmitter (R187, R188, R189) -/

/-- The kind byte of a notice (Table 11-7). -/
def NoticeKey.kind : NoticeKey → Byte
  | .alarm _ => 0x50
  | .scan => 0x51
  | .motion => 0x52
  | .std => 0x53

/-- Whether a key is an ALARM key. -/
def NoticeKey.isAlarm : NoticeKey → Bool
  | .alarm _ => true
  | _ => false

/-- The events in which the waiting frames of items 2 and 3 of R188 became ready. -/
def LinkController.readies (l : LinkController) : List Nat :=
  (l.refusal.map Waiting.ready).toList ++ (l.slot.map Waiting.ready).toList ++ (l.readout.map Readout.ready).toList

/-- The ALARM notice that goes before every waiting frame (R188, item 1). -/
def LinkController.alarmToSend (l : LinkController) : Option QueuedNotice :=
  l.notices.find? fun n => n.key.isAlarm && l.readies.all fun r => n.joined ≤ r

/-- The oldest notice of another kind (R188, item 4). -/
def LinkController.otherToSend (l : LinkController) : Option QueuedNotice :=
  l.notices.find? fun n => !n.key.isAlarm

/-- A frame begins to be sent. -/
def send (origin : TxOrigin) (m : Message) (s : State) : State :=
  s.setLink { s.link with transmitting := some { origin := origin, message := m, wire := m.wire } }

/-- A notice begins to be sent and leaves the queue (R189). -/
def sendNotice (n : QueuedNotice) (s : State) : State :=
  send (.notice n.key) { kind := n.key.kind, tag := 0, body := n.body }
    (s.setLink { s.link with notices := s.link.notices.filter fun x => x.key ≠ n.key })

/-- The next chunk is formed as it is chosen and begins to be sent (R187). -/
def sendChunk (r : Readout) (s : State) : State :=
  let p :=
    match r.first with
    | some content => (content, r.source)
    | none => r.source.next s
  let last := p.2.done
  send (.chunk last) { kind := r.kind, tag := r.tag, body := chunkBody r.next last p.1 }
    (s.setLink { s.link with readout := some { r with next := r.next + 1, first := none, source := p.2 } })

/-- The idle transmitter chooses a frame and begins to send it (R188). -/
def transmit (s : State) : State :=
  let l := s.link
  if l.transmitting.isSome then s
  else
    match l.alarmToSend, l.refusal, l.slot, l.readout, l.otherToSend with
    | some n, _, _, _, _ => sendNotice n s
    | none, some w, _, _, _ => send .refusal w.message s
    | none, none, some w, _, _ => send .reply w.message s
    | none, none, none, some r, _ => sendChunk r s
    | none, none, none, none, some n => sendNotice n s
    | none, none, none, none, none => s

/-- The end of the sending of a frame (R185 to R187, R136). -/
def frameSent (s : State) : State :=
  match s.link.transmitting with
  | none => s
  | some f =>
    let l := { s.link with transmitting := none }
    match f.origin with
    | .notice _ => s.setLink l
    | .refusal => s.setLink { l with refusal := none }
    | .reply => s.setLink { l with slot := none }
    | .chunk false => s.setLink { l with readout := l.readout.map fun r => { r with ready := l.eventNo } }
    | .chunk true => (s.setLink { l with readout := none }).setProfile s.profile.endHold

end Sys2Proof.Machine
end

