-- ==== Sys2Proof/Machine/Reference.lean ====
section
/-! DEFINITION. The Position Unit's events (chapter 1: transitions, the index mark, losses of reference) and
the timer and line events of the other blocks, each as a function of the state. An event that cannot occur in
a state leaves it as it is (log entry 2). -/

namespace Sys2Proof.Machine

/-! ### Position Unit (R1, R2, R6 to R8) -/

/-- Whether a legal transition is in the "up" column of Table 1-5. -/
def stepsUp (a b a' b' : Bool) : Bool :=
  match a, b, a', b' with
  | false, false, true, false => true
  | true, false, true, true => true
  | true, true, false, true => true
  | false, true, false, false => true
  | _, _, _, _ => false

/-- The counter after a legal transition (R1). -/
def countStep (sense : EncSense) (up : Bool) (c : Word32) : Word32 :=
  if up = (sense = .normal) then c + 1 else c - 1

/-- The reference becomes LOST: the report to the Traverse Controller unless it was LOST, and the ENCODER
occurrence; the report and the HALT claim in either order (R2, R4, R8, R34; log entry 5). -/
def losePosition (wasLost : Bool) (d : Detail) (s : State) : State :=
  let report (s : State) : State := if wasLost then s else loseReference s
  if Config.claimBeforeReport s.link.eventNo then report (takeClaims (raiseEvent srcEncoder d s))
  else raiseEvent srcEncoder d (report s)

/-- An illegal transition to the pair with both lines changed (R2). -/
def takeIllegal (s : State) : State :=
  let p := s.position
  losePosition (p.reference = .lost) (.transition s.counter)
    (s.setPosition { p with encA := !p.encA, encB := !p.encB, reference := .lost, captureArmed := false })

/-- A sampled pair: no change, a legal transition, or an illegal one (R1, R2). -/
def takePair (a b : Bool) (s : State) : State :=
  let p := s.position
  if a = p.encA ∧ b = p.encB then s
  else if a ≠ p.encA ∧ b ≠ p.encB then takeIllegal s
  else
    s.setPosition
      { p with
        encA := a, encB := b
        counter := countStep p.frame.encDir (stepsUp p.encA p.encB a b) p.counter }

/-- A reference capture (R7). -/
def takeCapture (s : State) : State :=
  let p := s.position
  let s' :=
    s.setPosition
      { p with
        counter := BitVec.ofNat 32 p.frame.homePosition, reference := .referenced, captureArmed := false }
  if p.reference = .referenced then s' else reportCapture s'

/-- The index check of a pass (R8). -/
def checkIndex (s : State) : State :=
  let error := s.counter - s.frame.homePosition
  if s.frame.indexTolerance < error.natAbs then
    losePosition false (.indexError s.counter error) (s.setPosition { s.position with reference := .lost })
  else s

/-- An index pass (R6). -/
def takeIndex (s : State) : State :=
  if s.position.indexAsserted then s
  else
    let s := s.setPosition { s.position with indexAsserted := true }
    if s.position.captureArmed then takeCapture s
    else if s.position.reference = .referenced then checkIndex s
    else s

/-- The fall of the index line (R6). -/
def indexFall (s : State) : State := s.setPosition { s.position with indexAsserted := false }

/-! ### Traverse Controller -/

/-- The reverse dwell expires (R28). -/
def dwellExpiry (s : State) : State := if s.traverse.dwellTimer.isSome then flipAndStart s else s

/-- The stall timer has reached stall_time (R40). -/
def stallExpiry (s : State) : State :=
  let t := s.traverse
  if t.drvEn && s.frame.stallTime ≤ t.stallTimer then
    raiseEvent srcStall (.stall s.counter t.speed t.state) (s.setTraverse { t with stallTimer := 0 })
  else s

/-- The move timer expires: the occurrence, and in HOMING its end (R42). -/
def moveExpiry (s : State) : State :=
  let t := s.traverse
  if t.moveTimer.isSome then
    let s := raiseEvent srcMoveTimeout (.moveTimeout t.state s.counter) (s.setTraverse { t with moveTimer := none })
    match t.state with
    | .homing _ => endHoming s
    | _ => s
  else s

/-- DRV_READY changes (R41). -/
def readyChange (level : Bool) (s : State) : State :=
  if level = s.traverse.drvReady then s else s.setTraverse (s.traverse.watchReady level)

/-- The drive-ready watch expires (R41). -/
def readyExpiry (s : State) : State := if s.traverse.readyWatch.isSome then expireReadyWatch s else s

/-- The level of a limit line. -/
def Traverse.limit (t : Traverse) (line : LimitLine) : Bool :=
  match line with
  | .lo => t.limitLo
  | .hi => t.limitHi

/-- A limit line is asserted (R39). -/
def limitRise (line : LimitLine) (s : State) : State :=
  if s.traverse.limit line then s else assertLimits (line = .lo) (line = .hi) s

/-- A limit line is deasserted (R39). -/
def limitFall (line : LimitLine) (s : State) : State :=
  if s.traverse.limit line then
    judgeLimits
      (match line with
       | .lo => s.setTraverse { s.traverse with limitLo := false }
       | .hi => s.setTraverse { s.traverse with limitHi := false })
  else s

/-! ### Standardize Unit -/

/-- The phase timer of a cycle expires (R85). -/
def phaseExpiry (s : State) : State :=
  match s.standardize.cycle with
  | some c => if c.phaseTimer.isSome then stepCycle c c.settled s else s
  | none => s

/-- The timeout timer of a cycle expires (R87). -/
def cycleTimeout (s : State) : State :=
  match s.standardize.cycle with
  | some c => if c.timeoutTimer.isSome then settleCycle (setCycle (some c.timedOut) s) else s
  | none => s

/-- A second of uptime (R96, R191). -/
def countSecond (s : State) : State :=
  let s := s.setLink { s.link with uptime := s.link.uptime + 1 }
  if s.traverse.state.measuring then evaluateExpired s else s

/-! ### Edge and Break Monitor -/

/-- BREAK_IN changes (R154). -/
def breakChange (level : Bool) (s : State) : State :=
  if level = s.edges.breakIn then s else s.setEdges { s.edges with breakIn := level }.debounceNow

/-- The debounce timer expires (R154). -/
def debounceExpiry (s : State) : State := if s.edges.debounce.isSome then acceptBreakLevel s else s

/-- The hold-off timer expires (R155). -/
def holdoffExpiry (s : State) : State :=
  match s.edges.holdoff with
  | .running _ =>
    match s.traverse.state with
    | .parked .brk => resumeStep s
    | .positioning ⟨.toPark .brk, _, _⟩ => s.setEdges { s.edges with holdoff := .due }
    | _ => s.setEdges { s.edges with holdoff := .idle }
  | _ => s

/-! ### Alarm Unit -/

/-- ALARM_SENSE changes (R175). -/
def senseChange (level : Bool) (s : State) : State :=
  if level = s.alarms.alarmSense then s else judgeReadback (s.setAlarms { s.alarms with alarmSense := level })

/-- The readback timer expires (R175). -/
def readbackExpiry (s : State) : State :=
  let a := s.alarms
  if a.readback.isSome then
    startCondition srcLineCheck (some (.levels a.alarmOut a.alarmSense))
      (s.setAlarms { a with readback := none, lineCheck := some (a.alarmOut, a.alarmSense) })
  else s

end Sys2Proof.Machine
end

