-- ==== Sys2Proof/Machine/Events.lean ====
section
/-! DEFINITION. The meanings of the commands that the machine side, the timers and the serial line give. Each
is one whole event: the event is numbered, its work is done, and the claims its occurrences gave are taken at
its end (R90, R173). -/

namespace Sys2Proof.Machine

/-- What a command answers. -/
abbrev Result := Host.Outcome State Fault Refusal

/-- The state after an event whose work is f. -/
def afterEvent (f : State → State) (s : State) : State := takeClaims (f s.nextEvent)

/-- One whole event. -/
def event (f : State → State) (s : State) : Result := .next (afterEvent f s)

/-- COLD_RESET (R16 and every block's cold column). -/
def execColdReset (cause : ColdCause) (pins : ResetPins) (s : State) : Result := event (coldReset cause pins) s

/-- RESTART (R194). -/
def execRestart (tag : Byte) (s : State) : Result := event (warmReset tag) s

/-- RECEIVE_BYTE (R182, R183, R185). -/
def execReceiveByte (input : RxInput) (s : State) : Result := event (receive input) s

/-- DISPATCH_REQUEST (R186). -/
def execDispatchRequest (s : State) : Result := event dispatch s

/-- TRANSMIT_FRAME (R188). -/
def execTransmitFrame (s : State) : Result := event transmit s

/-- FRAME_SENT (R187). -/
def execFrameSent (s : State) : Result := event frameSent s

/-- ENCODER_TRANSITION (R1). -/
def execEncoderTransition (a b : Bool) (s : State) : Result := event (takePair a b) s

/-- ILLEGAL_TRANSITION (R2). -/
def execIllegalTransition (s : State) : Result := event takeIllegal s

/-- INDEX_PASS (R6). -/
def execIndexPass (s : State) : Result := event takeIndex s

/-- INDEX_LINE_FALL (R6). -/
def execIndexLineFall (s : State) : Result := event indexFall s

/-- MOTION_TICK (R19). -/
def execMotionTick (homeSw : Bool) (s : State) : Result := event (motionTick homeSw) s

/-- REVERSE_DWELL_EXPIRY (R28). -/
def execReverseDwellExpiry (s : State) : Result := event dwellExpiry s

/-- STALL_TIMEOUT (R40). -/
def execStallTimeout (s : State) : Result := event stallExpiry s

/-- MOVE_TIMEOUT (R42). -/
def execMoveTimeout (s : State) : Result := event moveExpiry s

/-- DRV_READY_CHANGE (R41). -/
def execDrvReadyChange (level : Bool) (s : State) : Result := event (readyChange level) s

/-- DRIVE_READY_WATCH_EXPIRY (R41). -/
def execDriveReadyWatchExpiry (s : State) : Result := event readyExpiry s

/-- LIMIT_ASSERT (R39). -/
def execLimitAssert (line : LimitLine) (s : State) : Result := event (limitRise line) s

/-- LIMIT_RELEASE (R39). -/
def execLimitRelease (line : LimitLine) (s : State) : Result := event (limitFall line) s

/-- SYNC (R46). -/
def execSync (s : State) : Result := event takeSync s

/-- START_BIT (R50). -/
def execStartBit (timeNs : Nat) (stillLow : Bool) (s : State) : Result := event (takeStartBit timeNs stillLow) s

/-- FRAME_RECEIVED (R52, R53). -/
def execFrameReceived (bits : BitVec 25) (s : State) : Result := event (completeFrame bits) s

/-- STD_PHASE_TIMER_EXPIRY (R85). -/
def execStdPhaseTimerExpiry (s : State) : Result := event phaseExpiry s

/-- STD_TIMEOUT (R87). -/
def execStdTimeout (s : State) : Result := event cycleTimeout s

/-- UPTIME_SECOND (R191, R96). -/
def execUptimeSecond (s : State) : Result := event countSecond s

/-- BREAK_IN_CHANGE (R154). -/
def execBreakInChange (level : Bool) (s : State) : Result := event (breakChange level) s

/-- BREAK_DEBOUNCE_EXPIRY (R154). -/
def execBreakDebounceExpiry (s : State) : Result := event debounceExpiry s

/-- HOLDOFF_EXPIRY (R155). -/
def execHoldoffExpiry (s : State) : Result := event holdoffExpiry s

/-- ALARM_SENSE_CHANGE (R175). -/
def execAlarmSenseChange (level : Bool) (s : State) : Result := event (senseChange level) s

/-- LINE_READBACK_EXPIRY (R175). -/
def execLineReadbackExpiry (s : State) : Result := event readbackExpiry s

end Sys2Proof.Machine
end

