-- ==== Sys2Proof/Machine/Commands.lean ====
section
/-! DEFINITION. The meanings of the host requests of Table 11-11 as commands: each is one whole event in which
the request is dispatched, or waits as its frame would when the link is not free (R185, R186, log entry 4). -/

namespace Sys2Proof.Machine

/-- IDENTIFY (R191). -/
def execIdentify (tag : Byte) (s : State) : Result :=
  event (requestStep 0x01 tag [] handleIdentify) s

/-- STATUS (R192). -/
def execStatus (tag : Byte) (s : State) : Result :=
  event (requestStep 0x02 tag [] handleStatus) s

/-- SET_NOTICES (R190). -/
def execSetNotices (tag mask : Byte) (s : State) : Result :=
  event (requestStep 0x04 tag [mask] (handleSetNotices mask)) s

/-- GET_CONFIG (R193). -/
def execGetConfig (tag group : Byte) (s : State) : Result :=
  event (requestStep 0x05 tag [group] (handleGetConfig group)) s

/-- HOME (R35). -/
def execHome (tag : Byte) (s : State) : Result :=
  event (requestStep 0x10 tag [] handleHome) s

/-- START (R37). -/
def execStart (tag : Byte) (s : State) : Result :=
  event (requestStep 0x11 tag [] handleStart) s

/-- STOP (R38). -/
def execStop (tag : Byte) (s : State) : Result :=
  event (requestStep 0x12 tag [] handleStop) s

/-- POINT (R159). -/
def execPoint (tag : Byte) (position : Word32) (blockLength : Word16) (s : State) : Result :=
  event (requestStep 0x13 tag (fieldBytes 4 position ++ fieldBytes 2 blockLength) (handlePoint position blockLength)) s

/-- STANDARDIZE (R94). -/
def execStandardize (tag unconditional : Byte) (s : State) : Result :=
  event (requestStep 0x14 tag [unconditional] (handleStandardize unconditional)) s

/-- SET_FRAME (R9). -/
def execSetFrame (tag : Byte) (body : FrameBody) (s : State) : Result :=
  event (requestStep 0x20 tag body.bytes (handleSetFrame body)) s

/-- SET_LINK (R47). -/
def execSetLink (tag : Byte) (samplePeriod : Word16) (s : State) : Result :=
  event (requestStep 0x21 tag (fieldBytes 2 samplePeriod) (handleSetLink samplePeriod)) s

/-- SET_SLOT (R48). -/
def execSetSlot (tag : Byte) (body : SlotBody) (s : State) : Result :=
  event (requestStep 0x22 tag body.bytes (handleSetSlot body)) s

/-- SET_CURVE (R71). -/
def execSetCurve (tag : Byte) (body : CurveBody) (s : State) : Result :=
  event (requestStep 0x23 tag body.bytes (handleSetCurve body)) s

/-- SET_STD (R83). -/
def execSetStd (tag : Byte) (body : StdBody) (s : State) : Result :=
  event (requestStep 0x24 tag body.bytes (handleSetStd body)) s

/-- SET_LAYOUT (R103). -/
def execSetLayout (tag : Byte) (body : LayoutBody) (s : State) : Result :=
  event (requestStep 0x25 tag body.bytes (handleSetLayout body)) s

/-- SET_ZONE (R106). -/
def execSetZone (tag : Byte) (body : ZoneBody) (s : State) : Result :=
  event (requestStep 0x26 tag body.bytes (handleSetZone body)) s

/-- SET_FILTER (R130). -/
def execSetFilter (tag : Byte) (body : FilterBody) (s : State) : Result :=
  event (requestStep 0x27 tag body.bytes (handleSetFilter body)) s

/-- SET_SHEET (R143). -/
def execSetSheet (tag : Byte) (body : SheetBody) (s : State) : Result :=
  event (requestStep 0x28 tag body.bytes (handleSetSheet body)) s

/-- SET_WATCH (R61). -/
def execSetWatch (tag : Byte) (body : WatchBody) (s : State) : Result :=
  event (requestStep 0x29 tag body.bytes (handleSetWatch body)) s

/-- SET_ALARM (R171). -/
def execSetAlarm (tag source reactions : Byte) (s : State) : Result :=
  event (requestStep 0x2A tag [source, reactions] (handleSetAlarm source reactions)) s

/-- READ_PROFILE (R140). -/
def execReadProfile (tag channel form : Byte) (firstBox count : Word16) (s : State) : Result :=
  event (requestStep 0x30 tag ([channel, form] ++ fieldBytes 2 firstBox ++ fieldBytes 2 count) (handleReadProfile channel form firstBox count)) s

/-- READ_HISTORY (R141). -/
def execReadHistory (tag : Byte) (first : Word32) (count : Byte) (s : State) : Result :=
  event (requestStep 0x31 tag (fieldBytes 4 first ++ [count]) (handleReadHistory first count)) s

/-- READ_POINT (R165). -/
def execReadPoint (tag : Byte) (first : Word32) (count : Byte) (s : State) : Result :=
  event (requestStep 0x32 tag (fieldBytes 4 first ++ [count]) (handleReadPoint first count)) s

/-- READ_HOUSEKEEPING (R64). -/
def execReadHousekeeping (tag first count : Byte) (s : State) : Result :=
  event (requestStep 0x33 tag [first, count] (handleReadHousekeeping first count)) s

/-- READ_STD (R98). -/
def execReadStd (tag : Byte) (s : State) : Result :=
  event (requestStep 0x34 tag [] handleReadStd) s

/-- READ_EDGES (R157). -/
def execReadEdges (tag : Byte) (s : State) : Result :=
  event (requestStep 0x35 tag [] handleReadEdges) s

/-- READ_ALARMS (R179). -/
def execReadAlarms (tag : Byte) (s : State) : Result :=
  event (requestStep 0x36 tag [] handleReadAlarms) s

/-- ACK (R176). -/
def execAck (tag source : Byte) (s : State) : Result :=
  event (requestStep 0x38 tag [source] (handleAck source)) s

/-- DRILL (R177). -/
def execDrill (tag source : Byte) (s : State) : Result :=
  event (requestStep 0x39 tag [source] (handleDrill source)) s

end Sys2Proof.Machine
end

