-- ==== Sys2Proof/Machine/Dispatch.lean ====
section
/-! DEFINITION. The dispatch of the commands: one arm per constructor of Instr, each one direct call of its
meaning. -/

namespace Sys2Proof.Machine

/-- The effect of a command on everything but the queue of waiting commands. -/
def exec (i : Instr) (s : State) : Host.Outcome State Fault Refusal :=
  match i with
  | .coldReset cause pins => Sys2Proof.Machine.execColdReset cause pins s
  | .restart tag => Sys2Proof.Machine.execRestart tag s
  | .receiveByte input => Sys2Proof.Machine.execReceiveByte input s
  | .dispatchRequest => Sys2Proof.Machine.execDispatchRequest s
  | .transmitFrame => Sys2Proof.Machine.execTransmitFrame s
  | .frameSent => Sys2Proof.Machine.execFrameSent s
  | .identify tag => Sys2Proof.Machine.execIdentify tag s
  | .status tag => Sys2Proof.Machine.execStatus tag s
  | .setNotices tag mask => Sys2Proof.Machine.execSetNotices tag mask s
  | .getConfig tag group => Sys2Proof.Machine.execGetConfig tag group s
  | .home tag => Sys2Proof.Machine.execHome tag s
  | .start tag => Sys2Proof.Machine.execStart tag s
  | .stop tag => Sys2Proof.Machine.execStop tag s
  | .point tag position blockLength => Sys2Proof.Machine.execPoint tag position blockLength s
  | .standardize tag unconditional => Sys2Proof.Machine.execStandardize tag unconditional s
  | .setFrame tag body => Sys2Proof.Machine.execSetFrame tag body s
  | .setLink tag samplePeriod => Sys2Proof.Machine.execSetLink tag samplePeriod s
  | .setSlot tag body => Sys2Proof.Machine.execSetSlot tag body s
  | .setCurve tag body => Sys2Proof.Machine.execSetCurve tag body s
  | .setStd tag body => Sys2Proof.Machine.execSetStd tag body s
  | .setLayout tag body => Sys2Proof.Machine.execSetLayout tag body s
  | .setZone tag body => Sys2Proof.Machine.execSetZone tag body s
  | .setFilter tag body => Sys2Proof.Machine.execSetFilter tag body s
  | .setSheet tag body => Sys2Proof.Machine.execSetSheet tag body s
  | .setWatch tag body => Sys2Proof.Machine.execSetWatch tag body s
  | .setAlarm tag source reactions => Sys2Proof.Machine.execSetAlarm tag source reactions s
  | .readProfile tag channel form firstBox count => Sys2Proof.Machine.execReadProfile tag channel form firstBox count s
  | .readHistory tag first count => Sys2Proof.Machine.execReadHistory tag first count s
  | .readPoint tag first count => Sys2Proof.Machine.execReadPoint tag first count s
  | .readHousekeeping tag first count => Sys2Proof.Machine.execReadHousekeeping tag first count s
  | .readStd tag => Sys2Proof.Machine.execReadStd tag s
  | .readEdges tag => Sys2Proof.Machine.execReadEdges tag s
  | .readAlarms tag => Sys2Proof.Machine.execReadAlarms tag s
  | .ack tag source => Sys2Proof.Machine.execAck tag source s
  | .drill tag source => Sys2Proof.Machine.execDrill tag source s
  | .encoderTransition a b => Sys2Proof.Machine.execEncoderTransition a b s
  | .illegalTransition => Sys2Proof.Machine.execIllegalTransition s
  | .indexPass => Sys2Proof.Machine.execIndexPass s
  | .motionTick homeSw => Sys2Proof.Machine.execMotionTick homeSw s
  | .reverseDwellExpiry => Sys2Proof.Machine.execReverseDwellExpiry s
  | .stallTimeout => Sys2Proof.Machine.execStallTimeout s
  | .moveTimeout => Sys2Proof.Machine.execMoveTimeout s
  | .drvReadyChange level => Sys2Proof.Machine.execDrvReadyChange level s
  | .driveReadyWatchExpiry => Sys2Proof.Machine.execDriveReadyWatchExpiry s
  | .limitAssert line => Sys2Proof.Machine.execLimitAssert line s
  | .limitRelease line => Sys2Proof.Machine.execLimitRelease line s
  | .sync => Sys2Proof.Machine.execSync s
  | .frameReceived bits => Sys2Proof.Machine.execFrameReceived bits s
  | .stdPhaseTimerExpiry => Sys2Proof.Machine.execStdPhaseTimerExpiry s
  | .stdTimeout => Sys2Proof.Machine.execStdTimeout s
  | .uptimeSecond => Sys2Proof.Machine.execUptimeSecond s
  | .breakInChange level => Sys2Proof.Machine.execBreakInChange level s
  | .breakDebounceExpiry => Sys2Proof.Machine.execBreakDebounceExpiry s
  | .holdoffExpiry => Sys2Proof.Machine.execHoldoffExpiry s
  | .alarmSenseChange level => Sys2Proof.Machine.execAlarmSenseChange level s
  | .lineReadbackExpiry => Sys2Proof.Machine.execLineReadbackExpiry s
  | .startBit timeNs stillLow => Sys2Proof.Machine.execStartBit timeNs stillLow s
  | .indexLineFall => Sys2Proof.Machine.execIndexLineFall s

end Sys2Proof.Machine
end

