-- ==== Sys2Proof/Machine/Step.lean ====
section
/-! DEFINITION. The step of the block: the command at the front of the queue is taken; on an empty queue the
block idles (log entry 3). Time passes only by the commands that stand for it (MOTION_TICK, SYNC,
UPTIME_SECOND and the expiries), so nothing happens without a command. -/

namespace Sys2Proof.Machine

/-- The front command run on the state with the queue's rest; an idle block stays as it is. -/
def step (s : State) : Host.Outcome State Fault Refusal :=
  match s.pending with
  | [] => .next s
  | c :: rest => exec c { s with pending := rest }

/-- The state with the command that a word spells put at the front of its queue. No row of the table has bits,
so no word spells one and the state is as it was (log entry 37). -/
def State.withFetchWord (s : State) (nbits w : Nat) : State :=
  match decodeTableWord nbits w with
  | some c => { s with pending := c :: s.pending }
  | none => s

end Sys2Proof.Machine
end

