-- ==== Sys2Proof/WellFormed.lean ====
section
/-! DEFINITION. Which commands a host or a machine can give at all. A command that fails a check here is
still given a meaning by exec (a body that cannot be framed is discarded as its frame would be, R182). -/

namespace Sys2Proof

/-- The most breakpoints a SET CURVE body of at most 1,024 bytes can carry: 2 + 5n ≤ 1,024 (R182,
Table 11-11). -/
def maxCurvePoints : Nat := 204

/-- The longest sample period, 4,000 µs, in ns: no start bit lies later after its sync (R47, R50). -/
def longestPeriodNs : Nat := 4000000

/-- A command that can be given: its body fits a frame, its start bit lies within a sample period. -/
def Instr.WellFormed : Instr → Bool
  | .setCurve _ body => body.points.length ≤ maxCurvePoints
  | .startBit timeNs _ => timeNs < longestPeriodNs
  | _ => true

end Sys2Proof
end

