-- ==== Sys2Proof/Safety.lean ====
section
/-! DEFINITION. What the statements speak of: the parts of the state a command may change, the notices it posts, the
laws the spec states for every state the 680 reaches, a link that is free, and runs of several commands. -/

namespace Sys2Proof.Machine

/-! ### What changes -/

/-- The parts of the state a statement tells apart. The Link Controller has three: its notices, its answers
(dispatch slot, readout, last link error) and the rest. -/
inductive Part where
  | position
  | traverse
  | headLink
  | conversion
  | standardize
  | boxes
  | profile
  | edges
  | point
  | alarms
  | notices
  | answers
  | line
deriving DecidableEq, Repr

/-- Two states agree on a part. -/
def Part.same (p : Part) (s t : State) : Prop :=
  match p with
  | .position => t.position = s.position
  | .traverse => t.traverse = s.traverse
  | .headLink => t.headLink = s.headLink
  | .conversion => t.conversion = s.conversion
  | .standardize => t.standardize = s.standardize
  | .boxes => t.boxes = s.boxes
  | .profile => t.profile = s.profile
  | .edges => t.edges = s.edges
  | .point => t.point = s.point
  | .alarms => t.alarms = s.alarms
  | .notices => t.link.notices = s.link.notices
  | .answers => t.link.slot = s.link.slot ∧ t.link.readout = s.link.readout ∧ t.link.lastError = s.link.lastError
  | .line =>
    t.link =
      { s.link with
        notices := t.link.notices, slot := t.link.slot, readout := t.link.readout
        lastError := t.link.lastError }

/-- Nothing changes but the parts named: every other part is as it was, and so is the queue of commands. The
statements about a command compare with `s.nextEvent`, the state with the event numbered. -/
def ChangesOnly (parts : List Part) (s t : State) : Prop :=
  (∀ p : Part, p ∉ parts → p.same s t) ∧ t.pending = s.pending

/-! ### Fields and notices (R196, R189, Table 11-7) -/

/-- Fields in order, each with its size in bytes and its value: low byte first, signed values in two's complement
(R196). -/
def laid (fields : List (Nat × Int)) : List Byte := fields.flatMap fun f => leInt f.1 f.2

/-- Runs of fields one after another. -/
def joined (runs : List (List (Nat × Int))) : List (Nat × Int) := runs.flatten

/-- Yes/no answers as the bits of one field, the first in bit 0 (R196). -/
def bitField (answers : List Bool) : Nat := answers.foldr (fun b n => b.toNat + 2 * n) 0

/-- A signed number in n bytes; one they cannot hold is a free value (log entry 47). -/
def sent (n : Nat) (v : Int) : Nat × Int :=
  (n, if -(2 : Int) ^ (8 * n - 1) ≤ v ∧ v < 2 ^ (8 * n - 1) then v else Config.beyondField n v)

/-- The fields of an alarm detail (Table 11-8); the purpose and target of a MOVE_TIMEOUT in HOMING are 0 (log
entry 34), and an index error its field cannot hold is a free value (log entry 47). -/
def detailFields : Detail → List (Nat × Int)
  | .position p => [(4, p)]
  | .hole p length => [(4, p), (2, length)]
  | .set members => [(1, members.toNat)]
  | .stall p speed state => [(4, p), (2, speed), (1, state.code)]
  | .lines lo hi => [(1, bitField [lo, hi])]
  | .transition p => [(1, 0), (4, p)]
  | .indexError p error => [(1, 1), (4, p), sent 4 error]
  | .levels out sense => [(1, out.toNat), (1, sense.toNat)]
  | .edgeShift high old new => [(1, high.toNat), (4, old), (4, new)]
  | .moveTimeout state p =>
    match state with
    | .positioning m => [(1, state.code), (1, m.purpose.code), (4, m.target), (4, p)]
    | _ => [(1, state.code), (1, 0), (4, 0), (4, p)]

/-- The purpose of a move, the park cause of a park or the halt cause of a halt (Table 11-7). -/
def TravState.qualifierField : TravState → Nat
  | .positioning m => m.purpose.code
  | .parked c => c.code
  | .halted c => c.code
  | _ => 0

/-- The park cause in PARKED and in a move TO_PARK (Table 11-7). -/
def TravState.parkCauseField : TravState → Nat
  | .parked c => c.code
  | .positioning ⟨.toPark c, _, _⟩ => c.code
  | _ => 0

/-- The after-cycle destination of a cycle and of the move to it (Table 11-7). -/
def TravState.destinationField : TravState → Nat
  | .standardizing d => d.code
  | .positioning ⟨.toStd d, _, _⟩ => d.code
  | _ => 0

/-- The 26 bytes of an ALARM notice, the detail zero-filled to ten (Tables 11-7, 11-8). -/
def State.alarmNotice (s : State) (i : Fin 16) : List Byte :=
  let e := s.alarms.entries[i]
  let detail : List Byte := ((e.episode.bind Episode.detail).map fun d => laid (detailFields d)).getD []
  let episode : List (Nat × Int) :=
    match e.episode with
    | some p =>
      [(1, bitField [true, p.drill]), (4, p.firstUptime.toNat), (4, p.firstScan.getD 0), (4, p.lastUptime.toNat)]
    | none => [(1, 0), (4, 0), (4, 0), (4, 0)]
  laid [(1, i.val), (1, e.state.code), (1, e.count)] ++ laid episode ++ detail ++ List.replicate (10 - detail.length) 0

/-- The 14 bytes of a MOTION notice (R17, Table 11-7). -/
def State.motionNotice (s : State) : List Byte :=
  let t := s.traverse
  laid
    [(1, t.state.code), (1, t.state.qualifierField), (1, t.state.destinationField), (1, t.scanDir.code),
      (4, s.position.counter.toInt), (1, s.position.reference.code),
      (4, if t.state = .traversing then t.runningScan.getD 0 else 0), (1, t.state.parkCauseField)]

/-- The bytes of a SCAN notice of a record (R138, Table 11-7): bank 0 none written, 1 published, 2 left waiting. -/
def ScanRecord.notice (r : ScanRecord) (bank : Nat) : List Byte :=
  let part (p : ChannelPart) : List (Nat × Int) :=
    [(1, p.channel), (1, p.thin.toNat), (1, p.average.isSome.toNat), (4, p.average.getD 0)]
  laid
    (joined
      [[(4, r.scan), (1, r.abandoned.isSome.toNat), (1, (r.abandoned.map AbandonCause.code).getD 0), (1, bank),
          (1, r.parts.length)],
        r.parts.flatMap part])

/-- The bytes of the STD notice of a cycle, from the records as they stand (R92, Table 11-7). -/
def State.stdNotice (s : State) (c : Cycle) (abandoned : Bool) : List Byte :=
  let slots := (List.finRange 4).filter fun (k : Fin 4) => (c.slots[k]).isSome
  let result (k : Fin 4) : List (Nat × Int) :=
    let r := s.standardize.records[k]
    [(1, k.val), (1, r.lastResult.code), (1, bitField [r.lastDark.isSome, r.lastRef.isSome]), (2, r.lastDark.getD 0),
      (2, r.lastRef.getD 0)]
  laid
    (joined
      [[(1, c.cause.code), (1, abandoned.toNat), (1, c.unconditional.toNat), (4, s.position.counter.toInt), (1, 0),
          (1, slots.length)],
        slots.flatMap result])

/-- A notice has been posted with a key and a body (R189, R190). Those that waited keep their places and the order of
their joining, and later ones stand behind them with this event's number (log entry 4). With its kind enabled in the
mask the notice of the key that the queue now holds has that body; with it disabled those of the key are what they
were. -/
def Posted (key : NoticeKey) (body : List Byte) (s t : State) : Prop :=
  let enabled : Bool :=
    match key with
    | .alarm _ => s.link.mask.alarm
    | .scan => s.link.mask.scan
    | .motion => s.link.mask.motion
    | .std => s.link.mask.std
  let place (n : QueuedNotice) : NoticeKey × Nat := (n.key, n.joined)
  (∃ more : List NoticeKey,
    t.link.notices.map place = s.link.notices.map place ++ more.map fun k => (k, t.link.eventNo)) ∧
  (enabled = true → (t.link.notices.find? fun n => n.key = key).map QueuedNotice.body = some body) ∧
  (enabled = false →
    (t.link.notices.filter fun n => n.key = key) = s.link.notices.filter fun n => n.key = key)

/-- The entry of a source as it now stands has been reported: with REPORT in its reaction set its ALARM notice is
posted (R172). -/
def Reported (i : Fin 16) (s t : State) : Prop :=
  s.alarms.sets[i].report = true → Posted (.alarm i) (t.alarmNotice i) s t

/-- A change of what the entry of a source tells, its state or its detail, has been reported (R172). -/
def ChangeReported (i : Fin 16) (s t : State) : Prop := t.alarmNotice i ≠ s.alarmNotice i → Reported i s t

/-- What a MOTION notice is posted for (R17): traverse state, purpose or cause, park cause, destination. -/
def TravState.told (x : TravState) : Nat × Nat × Nat × Nat :=
  (x.code, x.qualifierField, x.parkCauseField, x.destinationField)

/-- A change of traverse state, purpose, cause or destination has posted a MOTION notice of the traverse as it now
stands, and no such change has posted none (R17). -/
def MotionNoticed (s t : State) : Prop :=
  (t.traverse.state.told ≠ s.traverse.state.told → Posted .motion t.motionNotice s t) ∧
  (t.traverse.state.told = s.traverse.state.told →
    (t.link.notices.filter fun n => n.key = .motion) = s.link.notices.filter fun n => n.key = .motion)

/-! ### A state between events, and a free link -/

/-- No claim is left over: the state of the 680 between two events (log entry 10). -/
def State.settled (s : State) : Prop := s.alarms.claims = []

/-- A request that arrives now is dispatched at once (R186). -/
def State.linkFree (s : State) : Prop :=
  s.link.slot = none ∧ s.link.readout = none ∧ s.link.queue = []

/-- The reply to a request of a kind and tag waits in the dispatch slot with a status and a body (R186,
Table 11-4). -/
def State.replied (t : State) (kind tag : Byte) (st : Status) (body : List Byte) : Prop :=
  t.link.slot.map Waiting.message =
    some { kind := kind + 0x80, tag := tag, body := BitVec.ofNat 8 st.code :: body }

/-- The state with the reply to a request placed in the dispatch slot; an OK or ACCEPTED clears the last link
error (R184, R186, Table 11-4). -/
def State.withReply (t : State) (kind tag : Byte) (st : Status) (body : List Byte) : State :=
  t.setLink
    { t.link with
      slot := some
        { message := { kind := kind + 0x80, tag := tag, body := BitVec.ofNat 8 st.code :: body }
          ready := t.link.eventNo }
      lastError := if st = .ok ∨ st = .accepted then .none else t.link.lastError }

/-- The state with the readout of a request in flight: its first chunk formed, the rest to come from a source; its
OK clears the last link error (R184, R187). -/
def State.withReadout (t : State) (kind tag : Byte) (first : List Byte) (rest : ReadoutSource) : State :=
  t.setLink
    { t.link with
      readout := some
        { kind := kind + 0x80, tag := tag, next := 0, first := some first, source := rest, ready := t.link.eventNo }
      lastError := .none }

/-- What an occurrence of a source leaves in its entry (R168, R170, Table 10-2): it is not CLEAR, its count is 1
after CLEAR and otherwise one more, holding at 255, its detail and drill flag are the occurrence's, its last
occurrence is the uptime, and it is reported (R172). -/
def Occurred (i : Fin 16) (d : Option Detail) (drill : Bool) (s t : State) : Prop :=
  t.alarms.entries[i].state ≠ .clear ∧
  t.alarms.entries[i].count =
    (if s.alarms.entries[i].state = .clear then 1 else min 255 (s.alarms.entries[i].count + 1)) ∧
  (∃ e, t.alarms.entries[i].episode = some e ∧ e.detail = d ∧ e.drill = drill ∧ e.lastUptime = s.link.uptime) ∧
  Reported i s t

/-- A source whose set holds HALT leaves CLEAR: the traverse is HALTED at the end of the event (R32, R173); a change of
the traverse is told (R17). -/
def HaltedBy (i : Fin 16) (s t : State) : Prop :=
  (s.alarms.entries[i].state = .clear → s.alarms.sets[i].halt = true → ∃ c, t.traverse.state = .halted c) ∧
  MotionNoticed s t

/-- A speed one tick nearer a ramp target (R19): the target if the two differ by no more than the step, else the
step toward it. -/
def stepToward (step speed target : Nat) : Nat :=
  if target ≤ speed + step ∧ speed ≤ target + step then target
  else if speed < target then speed + step
  else speed - step

/-- The drive direction of a tick that asks for motion in a direction: turned only while the demand is 0
(R19). -/
def Traverse.drive (t : Traverse) (want : Dir) : Dir := if t.speed = 0 then want else t.driveDir

/-- A move that is no detour has begun (R23): its target clamped by the soft limits, in RUN, the move timer started,
the drive on and the shutter closed, no turn point, detour or reverse dwell left. Of the rest of the Traverse
Controller only the running scan number, the resume attempts and the drive-ready watch may differ. A change of state or
purpose is told (R17). -/
def MoveBegun (purpose : Purpose) (target : Int) (holder : Claim) (s t : State) : Prop :=
  t.traverse =
    { s.traverse with
      state := .positioning { purpose := purpose, target := s.frame.clamp target, phase := .run }
      holder := some holder, moveTimer := some s.frame.moveTimeout, drvEn := true, shutter := false
      turnPoint := none, detour := false, dwellTimer := none, runningScan := t.traverse.runningScan
      resumeAttempts := t.traverse.resumeAttempts, readyWatch := t.traverse.readyWatch } ∧
  MotionNoticed s t

/-- At the next motion tick the running scan closes (R21, R27): the turn point, taken in the drive direction of that
tick, is no farther than the braking distance. -/
def State.closesAtTick (s : State) : Prop :=
  s.traverse.state = .traversing ∧
  ∃ p, s.traverse.turnPoint = some p ∧
    (s.traverse.drive s.traverse.scanDir).ahead (p - s.position.counter.toInt) ≤
      (s.traverse.speed * s.traverse.speed / (2000 * s.position.frame.accelStep) + s.traverse.speed / 1000 + 1 : Nat)

/-- The edges and the hole count of a scan's record are those its search settles as it ends, at an abandonment too
(R148; the last paragraph of 8.12 differs: log entry 48): the leading edge as found, and the trailing one at the last
present position when sheet was seen and the absent run stands at edge_run or more. -/
def EdgesHanded (s : State) (r : ScanRecord) : Prop :=
  ∀ k, s.edges.context = some k →
    let trailing : Option Int :=
      if k.sheetSeen = true ∧ s.edges.settings.edgeRun ≤ s.edges.absentRun then k.lastPresent else none
    r.holes = k.holes ∧ r.lowEdge = (if k.dir = .fwd then k.leading else trailing) ∧
      r.highEdge = if k.dir = .fwd then trailing else k.leading

/-- The running scan is abandoned (R131): its number is cleared, its contexts are given up, and its record is the
newest, with the cause, the edges found so far and no channel part, and told in a SCAN notice (R138). -/
def ScanAbandoned (cause : AbandonCause) (s t : State) : Prop :=
  t.traverse.runningScan = none ∧ t.profile.context = none ∧ t.edges.context = none ∧
  ∀ c, s.profile.context = some c →
    ∃ r, t.profile.history.getLast? = some r ∧ r.scan = c.scan ∧ r.dir = c.dir ∧ r.abandoned = some cause ∧
      r.endPosition = s.position.counter.toInt ∧ r.parts = [] ∧ EdgesHanded s r ∧ Posted .scan (r.notice 0) s t

/-- The running cycle is abandoned (R91): its context is given up, of its slots' records the last result alone is
changed, and the STD notice is posted (R92). -/
def CycleAbandoned (s t : State) : Prop :=
  ∀ c, s.standardize.cycle = some c →
    t.standardize = { s.standardize with cycle := none, records := t.standardize.records } ∧
    (∀ k : Fin 4,
      t.standardize.records[k] =
        if c.slots[k] = none then s.standardize.records[k]
        else { s.standardize.records[k] with lastResult := .abandoned }) ∧
    Posted .std (t.stdNotice c true) s t

/-- A cycle has been evaluated and completed (R88 to R90), with the watches as a predicate tells them tripped: the
records are written by its verdicts, those of other slots untouched, the schedule counter and the pending request
are cleared, STD_REJECTED is raised with exactly the slots that were not accepted, or not at all, the expired slots are
evaluated by the new records (R96; an age as log entry 28 has it), the STD notice is posted (R92), and STANDARDIZING is
left, as a MOTION notice tells. -/
def CycleEvaluated (c : Cycle) (tripped : Fin 4 → Bool) (s t : State) : Prop :=
  t.standardize =
    { s.standardize with
      cycle := none, scheduleCounter := 0, pendingRequest := none, records := t.standardize.records
      expiredSlots := t.standardize.expiredSlots } ∧
  (∀ k : Fin 4, c.slots[k] = none → t.standardize.records[k] = s.standardize.records[k]) ∧
  (∀ (k : Fin 4) (x : Collection), c.slots[k] = some x → x.state ≠ .done →
    t.standardize.records[k] =
      { s.standardize.records[k] with
        lastResult := .noData, lastRef := none
        lastDark := if c.settings.nDark ≤ x.darkCount then some (roundNat x.darkSum c.settings.nDark) else none }) ∧
  (∀ (k : Fin 4) (x : Collection), c.slots[k] = some x → x.state = .done →
    let r := s.standardize.records[k]
    let dark := roundNat x.darkSum c.settings.nDark
    let ref := roundNat x.refSum c.settings.nRef
    t.standardize.records[k] =
      if tripped k then { r with lastResult := .watch, lastDark := some dark, lastRef := some ref }
      else if (ref : Int) - dark < c.settings.minSpan[k] then
        { r with lastResult := .span, lastDark := some dark, lastRef := some ref }
      else if c.unconditional = false ∧
          ∃ a, r.accepted = some a ∧
            c.settings.driftLimit[k] * a.ref < ((ref : Int) - a.ref).natAbs * 1000 then
        { r with lastResult := .drift, lastDark := some dark, lastRef := some ref }
      else
        { accepted := some { dark := dark, ref := ref, acceptedAt := s.link.uptime }
          acceptedCount := min 65535 (r.acceptedCount + 1)
          lastResult := .accepted, lastDark := some dark, lastRef := some ref }) ∧
  (let rejected (k : Fin 4) : Prop := c.slots[k] ≠ none ∧ t.standardize.records[k].lastResult ≠ .accepted
   ((∃ k, rejected k) →
     ∃ set, Occurred srcStdRejected (some (.set set)) false s t ∧ ∀ k : Fin 4, set.getLsbD k = true ↔ rejected k) ∧
   ((∀ k, ¬rejected k) → t.alarms.entries[srcStdRejected] = s.alarms.entries[srcStdRejected])) ∧
  (∀ k : Fin 4, t.standardize.expiredSlots.getLsbD k =
    (s.headLink.slots[k].enabled &&
      match t.standardize.records[k].accepted with
      | none => true
      | some a => s.standardize.settings.maxAge < (s.link.uptime - a.acceptedAt).toNat)) ∧
  (∀ d, s.traverse.state = .standardizing d → ∀ e, t.traverse.state ≠ .standardizing e) ∧
  ChangeReported srcStdExpired s t ∧ Posted .std (t.stdNotice c false) s t ∧ MotionNoticed s t

/-- The open dwell has ended with a cause (R164): its target and channels are kept, its ring stands. -/
def DwellEnded (cause : DwellEnd) (s t : State) : Prop :=
  ∀ d, s.point.dwell = .opened d → t.point = { s.point with dwell := .ended d.target cause d.channels }

/-- What ran in the state that was left has been ended, and nothing else of its kind changed: a scan in TRAVERSING,
a cycle in STANDARDIZING, a dwell in DWELLING (R38, R159). -/
def RunningEnded (scan : AbandonCause) (dwell : DwellEnd) (s t : State) : Prop :=
  (s.traverse.state = .traversing → ScanAbandoned scan s t) ∧
  (s.traverse.state ≠ .traversing →
    t.profile = s.profile ∧ t.edges.context = s.edges.context ∧ t.traverse.runningScan = s.traverse.runningScan) ∧
  t.traverse.resumeAttempts = s.traverse.resumeAttempts ∧
  (∀ d, s.traverse.state = .standardizing d → CycleAbandoned s t) ∧
  ((∀ d, s.traverse.state ≠ .standardizing d) → t.standardize = s.standardize) ∧
  (s.traverse.state = .dwelling → DwellEnded dwell s t) ∧
  (s.traverse.state ≠ .dwelling → t.point = s.point)

/-- The resume step of the Edge and Break Monitor in a break park (R156, R43, R127), which ends with the hold-off
IDLE: not tried with autoresume off or the attempts spent; otherwise the two break sources are acknowledged if LATCHED
and the order is taken, with one attempt more, every filter age 0 and the approach begun, when the machine is ready and
no other source blocks, and refused, nothing else changed, when it is not. A LINE_CHECK that is ACTIVE_ACKED and alone
blocks is told apart: those acknowledgements may release ALARM_OUT and so end it (R175). What changes is told (R17,
R172). -/
def ResumeStepMade (s t : State) : Prop :=
  let spent : Prop :=
    s.edges.settings.autoresume = false ∨ s.edges.settings.resumeLimit ≤ s.traverse.resumeAttempts
  let acks (i : Fin 16) : Prop :=
    (i = srcSheetBreak ∨ i = srcSheetLost) ∧ s.alarms.entries[i].state = .latched
  let others (i : Fin 16) : Prop := s.blocks i = true ∧ ¬acks i
  let line : Prop := s.alarms.entries[srcLineCheck].state = .activeAcked
  let stays (o : ResumeOutcome) : Prop :=
    t.edges.lastResume = o ∧ t.traverse.state = .parked .brk ∧ t.profile.filters = s.profile.filters ∧
      t.traverse.resumeAttempts = s.traverse.resumeAttempts
  let taken : Prop :=
    t.edges.lastResume = .taken ∧ t.blocked = false ∧
    t.traverse.resumeAttempts = s.traverse.resumeAttempts + 1 ∧ t.traverse.holder = some .scanProgram ∧
    t.traverse.state =
      .positioning
        (if s.lacksStandardize then
          { purpose := .toStd .turnLow, target := s.frame.clamp s.position.frame.stdPosition, phase := .run }
         else { purpose := .toTurn .fwd false, target := s.frame.clamp (s.turnPointFor .rev), phase := .run }) ∧
    ∀ c : Fin 5, t.profile.filters[c] = { s.profile.filters[c] with age := 0 }
  t.edges = { s.edges with holdoff := .idle, lastResume := t.edges.lastResume } ∧
  MotionNoticed s t ∧
  (spent → stays .notTried ∧ t.alarms = s.alarms) ∧
  (¬spent →
    (∀ i : Fin 16, acks i → t.alarms.entries[i].state = .clear ∧ Reported i s t) ∧ ChangeReported srcLineCheck s t ∧
    (s.ready = true → (∀ i, ¬others i) → taken) ∧
    (s.ready = false ∨ (∃ i, others i ∧ ¬(i = srcLineCheck ∧ line)) → stays .refused) ∧
    (s.ready = true → others srcLineCheck → line → (∀ i, others i → i = srcLineCheck) →
      (t.alarms.entries[srcLineCheck].state = .clear → taken) ∧
      (t.alarms.entries[srcLineCheck].state ≠ .clear → stays .refused)))

/-- The share of water in weight in units of 0.01 %, clamped to 0 to 10,000; none where either is missing or the
weight is not positive (R123, R163). -/
def moistureShare (water weight : Option Int) : Option Int :=
  match water, weight with
  | some x, some y => if 0 < y then some (max 0 (min (roundInt (10000 * x) y.toNat) 10000)) else none
  | _, _ => none

/-- What a move, a claim or the end of what runs may change: all but the sample path and the link's own line and
answers. -/
def motionParts : List Part :=
  [.position, .traverse, .standardize, .profile, .edges, .point, .alarms, .notices]

/-- The state after a list of commands, each run by exec; none if one does not answer next. -/
def runAll : List Instr → State → Option State
  | [], s => some s
  | c :: rest, s =>
    match exec c s with
    | .next t => runAll rest t
    | _ => none

/-! ### Laws the spec states -/

/-- The states in which the speed demand is held at 0 (R18). -/
def TravState.atRest : TravState → Bool
  | .unreferenced => true
  | .parked _ => true
  | .standardizing _ => true
  | .dwelling => true
  | .halted _ => true
  | _ => false

/-- The law of the drive lines (R18), with the duty of a drive that is off (R20). -/
def DriveLaw (s : State) : Prop :=
  s.traverse.drvEn = s.traverse.state.driveOn ∧
  (s.traverse.state.atRest = true → s.traverse.speed = 0) ∧
  (s.traverse.state.driveOn = false → s.traverse.duty = 0)

/-- A running cycle is in a reference phase. -/
def State.inReference (s : State) : Prop :=
  ∃ d c, s.traverse.state = .standardizing d ∧ s.standardize.cycle = some c ∧
    (c.phase = .refSettle ∨ c.phase = .ref)

/-- The law of the shutter (R24): open in TRAVERSING, REVERSING and DWELLING, and otherwise at most in a
reference phase of STANDARDIZING. -/
def ShutterLaw (s : State) : Prop :=
  (s.traverse.state.opensShutter = true → s.traverse.shutter = true) ∧
  (s.traverse.shutter = true → s.traverse.state.opensShutter = true ∨ s.inReference)

/-- The law of the turn point (R25): within the soft limits, and held only in TRAVERSING, REVERSING and a
detour. -/
def TurnLaw (s : State) : Prop :=
  s.frame.travelMin ≤ s.frame.travelMax ∧
  (∀ p, s.traverse.turnPoint = some p →
    (s.frame.travelMin : Int) ≤ p ∧ p ≤ s.frame.travelMax ∧ s.traverse.state.keepsTurnPoint = true)

/-- The law of the notice queue (R189): no two notices of one key. -/
def NoticeLaw (s : State) : Prop := (s.link.notices.map QueuedNotice.key).Nodup

/-- The law of the entries and of the alarm line (R168, R174): no count above 255, a line mark only on an ACTIVE
or LATCHED entry, ALARM_OUT asserted exactly while an entry holds a mark. -/
def AlarmLaw (s : State) : Prop :=
  (∀ i : Fin 16,
    s.alarms.entries[i].count ≤ 255 ∧
    (s.alarms.entries[i].lineMark = true →
      s.alarms.entries[i].state = .active ∨ s.alarms.entries[i].state = .latched)) ∧
  s.alarms.alarmOut = s.alarms.anyMark

/-- The number of the newest COMPLETE record the history holds (R134). -/
def ProfileUnit.newestComplete (p : ProfileUnit) : Option Nat :=
  ((p.history.filter fun r => r.abandoned = none).getLast?).map ScanRecord.scan

/-- A bank holds the scan of the newest COMPLETE record, if the history holds one. -/
def ProfileUnit.isNewest (p : ProfileUnit) (w : Fin 2) : Prop :=
  ∀ n, p.newestComplete = some n → (p.banks[w]).map Bank.scan = some n

/-- The law of the banks (R135, R136): a hold lasts no longer than a readout, a bank waits only during a hold
and is not the held one, and the published bank is the held one or none while a hold stands. The waiting bank, or
with none waiting the published one, is that of the newest COMPLETE record. -/
def BankLaw (s : State) : Prop :=
  (s.link.readout = none → s.profile.held = none) ∧
  (s.profile.held = none → s.profile.waiting = none) ∧
  (∀ h, s.profile.held = some h →
    (s.profile.published = none ∨ s.profile.published = some h) ∧ s.profile.waiting ≠ some h) ∧
  (∀ w, s.profile.waiting = some w → s.profile.isNewest w) ∧
  (∀ w, s.profile.published = some w → s.profile.waiting = none → s.profile.isNewest w)

/-- A bank comes to the published mark only with the scan of the newest COMPLETE record, and while it holds the mark
it is not written (R135); so the published bank's scan is never later than that record's. -/
def PublishedInOrder (s t : State) : Prop :=
  ∀ w, t.profile.published = some w →
    t.profile.isNewest w ∨ s.profile.published = some w ∧ t.profile.banks[w] = s.profile.banks[w]

/-- The law of the reference (R4, R29): a state other than UNREFERENCED, HOMING and HALTED is held only with the
reference REFERENCED, and a capture is armed only in HOMING. -/
def ReferenceLaw (s : State) : Prop :=
  (match s.traverse.state with
   | .unreferenced | .homing _ | .halted _ => True
   | _ => s.position.reference = .referenced) ∧
  (s.position.captureArmed = true → ∃ p, s.traverse.state = .homing p)

/-- The capacities of Table 1-2 that a queue or a ring could break (R12, R133, R163, R185). -/
def CapacityLaw (s : State) : Prop :=
  s.position.history.length ≤ 16 ∧ s.profile.history.length ≤ 32 ∧ s.point.ring.length ≤ 64 ∧
  s.link.queue.length ≤ 4

/-- Numbers that follow one another, 4,294,967,295 by 1 (R118). -/
def consecutive : List Nat → Prop
  | a :: b :: rest => b = nextNumber a ∧ consecutive (b :: rest)
  | _ => True

/-- The law of the history (R118, R134): a scan context is open exactly in TRAVERSING, the dwell timer runs only
in REVERSING, and the numbers of the records, of the running scan and the next scan number follow one
another. -/
def HistoryLaw (s : State) : Prop :=
  (s.profile.context.isSome ↔ s.traverse.state = .traversing) ∧
  (s.traverse.dwellTimer.isSome → s.traverse.state = .reversing) ∧
  consecutive
    (s.profile.history.map ScanRecord.scan ++ (s.profile.context.map ScanContext.scan).toList ++
      [s.profile.nextScan])

/-- The law of the accumulators (R109, R112), with the canonical form of the model's tables: no default entry is
listed, indices rise, and no count exceeds 65,535. -/
def AccumulatorLaw (s : State) : Prop :=
  ∀ k : Fin 4,
    Table.wf Accumulator.zero s.boxes.accumulators[k] = true ∧
    ∀ b, (Table.get Accumulator.zero s.boxes.accumulators[k] b).count ≤ 65535

/-- The accumulator of a box and a slot channel; one not listed is cleared (Table 6-3). -/
def State.accumulator (s : State) (k : Fin 4) (b : Nat) : Accumulator :=
  Table.get Accumulator.zero s.boxes.accumulators[k] b

/-- The command at the front of the queue is a slot's frame, and its sample is added (R112): one accumulator of the
slot's channel gains the converted value and one count, and no other changes. The accepted values are those before
the step or, for the frame that ends a cycle, those after it (R75, log entry 6). -/
def SampleAdded (s t : State) : Prop :=
  ∃ (bits : BitVec 25) (rest : List Instr) (k : Fin 4) (b : Nat) (curve : Curve) (a : StdAccepted),
    s.pending = .frameReceived bits :: rest ∧ s.headLink.reception = some (.own k) ∧
    s.conversion.curves[k] = some curve ∧
    (s.standardize.records[k].accepted = some a ∨ t.standardize.records[k].accepted = some a) ∧
    ∀ (j : Fin 4) (i : Nat),
      t.accumulator j i =
        if j = k ∧ i = b then
          { sum :=
              (s.accumulator k b).sum + curveValue curve (normalize (bits.extractLsb' 5 16).toNat a.dark a.ref)
            count := (s.accumulator k b).count + 1 }
        else s.accumulator j i

/-- The law of the sums (R112), step by step: a scan starts with every accumulator cleared, and while it runs a step
changes no accumulator or adds one sample. So the sum of a box is the sum of exactly the samples it has counted since
the scan start. -/
def SamplesSummed (s t : State) : Prop :=
  let goesOn : Prop :=
    ∃ c, s.profile.context = some c ∧ t.profile.context.map ScanContext.scan = some c.scan
  (t.profile.context ≠ none → ¬goesOn → ∀ (k : Fin 4) (b : Nat), t.accumulator k b = Accumulator.zero) ∧
  (goesOn → (∀ (k : Fin 4) (b : Nat), t.accumulator k b = s.accumulator k b) ∨ SampleAdded s t)

/-! ### Reply bodies, field by field (R196, Table 11-9) -/

/-- Every enumeration is sent as the position of its value in the list of Table 11-10. -/
def EnumerationsAsListed : Prop :=
  (TravState.unreferenced.code = 0 ∧ (∀ p, (TravState.homing p).code = 1) ∧ (∀ c, (TravState.parked c).code = 2) ∧
    (∀ m, (TravState.positioning m).code = 3) ∧ (∀ d, (TravState.standardizing d).code = 4) ∧
    TravState.traversing.code = 5 ∧ TravState.reversing.code = 6 ∧ TravState.dwelling.code = 7 ∧
    ∀ c, (TravState.halted c).code = 8) ∧
  ((∀ c, (Purpose.toPark c).code = 0) ∧ (∀ d, (Purpose.toStd d).code = 1) ∧ (∀ n, (Purpose.toPoint n).code = 2) ∧
    ∀ d r, (Purpose.toTurn d r).code = 3) ∧
  (∀ x : ParkCause, x.code = [ParkCause.host, .homed, .brk, .reaction, .config].idxOf x) ∧
  (∀ x : HaltCause, x.code = [HaltCause.reaction, .limit, .restart].idxOf x) ∧
  (∀ x : CycleDest, x.code = 1 + [CycleDest.park, .turnLow, .ret].idxOf x) ∧
  (∀ x : Dir, x.code = [Dir.fwd, .rev].idxOf x) ∧ (∀ x : EncSense, x.code = [EncSense.normal, .reversed].idxOf x) ∧
  (∀ x : RefState, x.code = [RefState.unknown, .referenced, .lost].idxOf x) ∧
  (∀ x : StartCause, x.code = [StartCause.power, .pin, .restart].idxOf x) ∧
  (∀ x : AlarmState, x.code = [AlarmState.clear, .active, .activeAcked, .latched].idxOf x) ∧
  (∀ x : FrameOutcome,
    x.code = [FrameOutcome.good, .saturated, .warming, .fault, .check, .timing, .overlap, .missing].idxOf x) ∧
  (∀ x : AbandonCause, x.code = 1 + [AbandonCause.brk, .reaction, .host, .restart].idxOf x) ∧
  (∀ x : BoxState, x.code = [BoxState.valid, .missing, .void].idxOf x) ∧
  (∀ x : StdResult,
    x.code = [StdResult.none, .accepted, .watch, .span, .drift, .noData, .abandoned].idxOf x) ∧
  (∀ x : CycleCause, x.code = [CycleCause.scheduled, .request, .start].idxOf x) ∧
  (∀ x : CyclePhase, x.code = [CyclePhase.darkSettle, .dark, .refSettle, .ref, .evaluate].idxOf x) ∧
  (∀ x : CollectState, x.code = [CollectState.dark, .refWait, .ref, .done, .noData].idxOf x) ∧
  (∀ x : Presence, x.code = [Presence.present, .absent, .unknown].idxOf x) ∧
  (∀ x : SlotKind, x.code = [SlotKind.weight, .water, .caliper, .aux].idxOf x) ∧
  (∀ x : LayoutMode, x.code = [LayoutMode.fixed, .edge].idxOf x) ∧
  (∀ x : EdgeState, x.code = [EdgeState.unknown, .found, .beyond].idxOf x) ∧
  (∀ x : Qualification, x.code = [Qualification.none, .qualified, .reported, .disqualified].idxOf x) ∧
  (Holdoff.idle.code = 0 ∧ Holdoff.wait.code = 1 ∧ (∀ n, (Holdoff.running n).code = 2) ∧ Holdoff.due.code = 3) ∧
  (∀ x : ResumeOutcome, x.code = [ResumeOutcome.none, .notTried, .taken, .refused].idxOf x) ∧
  (∀ x : DwellEnd, x.code = 1 + [DwellEnd.stop, .start, .point, .park, .halt, .reference].idxOf x) ∧
  ∀ x : LinkError, x.code = [LinkError.none, .short, .escape, .framing, .length, .check, .overrun].idxOf x

/-- The blocking set (R178) as a field of two bytes, bit n for source n. -/
def State.blockingField (s : State) : Nat :=
  bitField ((List.finRange 16).map fun (i : Fin 16) =>
    (s.alarms.sets[i].park || s.alarms.sets[i].halt) && s.alarms.entries[i].state ≠ .clear)

/-- The fields of STATUS. -/
def State.statusFields (s : State) : List (Nat × Int) :=
  let t := s.traverse
  let frame := s.position.configured
  let layout := s.boxes.layout.isSome
  let curve := s.headLink.slots[(0 : Fin 4)].enabled && s.conversion.curves[(0 : Fin 4)].isSome
  let reference : Bool := s.position.reference = .referenced
  let entriesIn (a : AlarmState) : Nat := (List.finRange 16).countP fun (i : Fin 16) => s.alarms.entries[i].state = a
  [(1, s.link.startCause.code), (4, s.link.uptime.toNat), (1, t.state.code), (1, t.state.qualifierField),
    (1, t.state.parkCauseField), (1, t.state.destinationField), (1, t.scanDir.code), (4, s.position.counter.toInt), (1, s.position.reference.code),
    (1, bitField [frame, layout, curve, reference, frame && layout && curve && reference]),
    (4, t.runningScan.getD 0), (4, ((s.profile.published.bind fun b => s.profile.banks[b]).map Bank.scan).getD 0),
    (1, s.conversion.latest.code), (1, t.resumeAttempts), (1, s.edges.holdoff.code), (1, s.edges.lastResume.code),
    (2, s.headLink.period.getD 0), (1, entriesIn .clear), (1, entriesIn .active), (1, entriesIn .activeAcked),
    (1, entriesIn .latched), (2, s.blockingField), (1, s.alarms.alarmOut.toNat), (1, s.link.lastError.code),
    (1, bitField ((List.finRange 4).map fun (k : Fin 4) => (s.conversion.staged[k]).isSome)),
    (1, s.boxes.stagedLayout.isSome.toNat),
    (1, bitField ((List.finRange 8).map fun (z : Fin 8) => (s.boxes.stagedZones[z]).isSome)),
    (1, s.link.queue.length)]

/-- The fields of READ STD; the seconds of a cycle are the uptime now less that at its start (log entry 12), an age is
a difference of uptimes (log entry 28), and a cycle that does not run and a slot outside it are zeros (log entry 27). -/
def State.stdFields (s : State) : List (Nat × Int) :=
  let t := s.standardize
  let record (k : Fin 4) : List (Nat × Int) :=
    let r := t.records[k]
    let age : Nat := (r.accepted.map fun a => (s.link.uptime - a.acceptedAt).toNat).getD 0
    [(1, k.val), (1, s.headLink.slots[k].kind.code),
      (1, bitField [r.accepted.isSome, r.lastDark.isSome, r.lastRef.isSome]), (1, s.headLink.slots[k].enabled.toNat),
      (2, (r.accepted.map StdAccepted.dark).getD 0), (2, (r.accepted.map StdAccepted.ref).getD 0),
      (4, ((r.accepted.map StdAccepted.acceptedAt).getD 0).toNat), (4, age), (2, r.acceptedCount),
      (1, r.lastResult.code), (2, r.lastDark.getD 0), (2, r.lastRef.getD 0)]
  let collection (c : Cycle) (k : Fin 4) : List (Nat × Int) :=
    match c.slots[k] with
    | some x => [(1, x.state.code), (2, x.darkCount), (2, x.refCount)]
    | none => [(1, 0), (2, 0), (2, 0)]
  let cycle : List (Nat × Int) :=
    match t.cycle with
    | some c =>
      joined
        [[(1, 1), (1, c.cause.code), (1, c.unconditional.toNat), (1, c.phase.code),
            (2, (s.link.uptime - c.startedAt).toNat)],
          collection c 0, collection c 1, collection c 2, collection c 3]
    | none => List.replicate 26 (1, 0)
  let pending : Nat :=
    match t.pendingRequest with
    | none => 0
    | some false => 1
    | some true => 2
  joined
    [record 0, record 1, record 2, record 3,
      [(2, t.scheduleCounter), (2, t.settings.intervalScans), (1, pending)], cycle,
      [(1, (decide (t.expiredSlots ≠ 0)).toNat), (1, t.expiredSlots.toNat)]]

/-- The fields of READ EDGES; zeros for a search context while none is open (log entry 27), a free value for a number
its field cannot hold (log entry 47). -/
def State.edgeFields (s : State) : List (Nat × Int) :=
  let m := s.edges
  let side (e : EdgeEntry) : List (Nat × Int) :=
    [(1, e.state.code), (1, bitField [e.find.isSome, e.find.isSome, e.shift.isSome]),
      (4, (e.find.map Prod.fst).getD 0), (4, (e.find.map Prod.snd).getD 0), sent 4 (e.shift.getD 0)]
  let search : List (Nat × Int) :=
    match m.context with
    | some c =>
      [(1, 1), (4, c.scan),
        (1, bitField [c.interior.isSome, c.airSeen, c.sheetSeen, c.leading.isSome, c.lastPresent.isSome]),
        sent 4 ((c.interior.map Prod.fst).getD 0), sent 4 ((c.interior.map Prod.snd).getD 0), (4, c.leading.getD 0),
        (4, c.lastPresent.getD 0), (2, c.holes)]
    | none => List.replicate 24 (1, 0)
  let remaining : Nat :=
    match m.holdoff with
    | .running n => n
    | _ => 0
  joined
    [side m.low, side m.high,
      [(2, m.presentRun), (2, m.absentRun), (4, m.presentFirst.getD 0), (4, m.absentFirst.getD 0),
        (1, m.qualification.code)],
      search,
      [(1, m.accepted.toNat), (1, m.debounce.isSome.toNat), (1, m.holdoff.code), (4, remaining),
        (1, s.traverse.resumeAttempts), (1, m.settings.resumeLimit), (1, m.settings.autoresume.toNat),
        (1, m.lastResume.code)]]

/-- The fields of a reaction set (Table 11-9). -/
def reactionField (r : Reactions) : Nat := bitField [r.report, r.park, r.halt, r.line]

/-- The fixed part of a source's reaction set: HALT where it must be held, LINE where it may not (Table 10-1,
Table 11-9). -/
def fixedField (i : Fin 16) : Nat :=
  bitField
    [false, false, i ∈ [srcDriveFault, srcStall, srcLimit, srcEncoder, srcMoveTimeout], i = srcLineCheck]

/-- An alarm entry as READ ALARMS gives it: the fields of its notice, the line mark, the reaction set and its fixed
part. -/
def State.alarmEntryBytes (s : State) (i : Fin 16) : List Byte :=
  s.alarmNotice i ++ laid [(1, s.alarms.entries[i].lineMark.toNat), (1, reactionField s.alarms.sets[i]), (1, fixedField i)]

/-- The fields of a configuration group (Table 11-9, each as the SET body of Table 11-11 that sets it), with the
min_count byte that GET CONFIG gives for channel 4 (log entry 8). -/
def State.groupFields (s : State) (channel4 : Byte) (group : Nat) : List (Nat × Int) :=
  let f := s.position.frame
  let t := s.standardize.settings
  let m := s.edges.settings
  let curve (k : Fin 4) (c : Option Curve) : List (Nat × Int) :=
    joined [[(1, c.isSome.toNat), (1, k.val), (1, (c.getD []).length)], (c.getD []).flatMap fun p => [(2, p.1), (3, p.2)]]
  let layout (l : Option Layout) : List (Nat × Int) :=
    match l with
    | some l => [(1, 1), (1, l.mode.code), (2, l.boxes), (4, l.origin), (2, l.width)]
    | none => List.replicate 10 (1, 0)
  let zone (z : Fin 8) (x : Zone) : List (Nat × Int) :=
    [(1, z.val), (1, x.enabled.toNat), (4, x.low), (4, x.high), (1, x.slots.toNat), (1, x.presenceIgnore.toNat)]
  let channel (x : FilterSettings) (minCount : Nat) : List (Nat × Int) :=
    [(1, x.k), (1, minCount), (2, x.minValid), (1, x.staleLimit)]
  match group with
  | 0 =>
    [(4, f.travelMin), (4, f.travelMax), (4, f.homePosition), (2, f.indexTolerance), (4, f.parkPosition),
      (4, f.stdPosition), (1, f.encDir.code), (2, f.vFull), (2, f.scanSpeed), (2, f.moveSpeed), (2, f.homingSpeed),
      (2, f.creepSpeed), (2, f.accelStep), (1, f.arriveTolerance), (2, f.overtravel), (2, f.reverseDwell),
      (2, f.stallSpeed), (2, f.stallTime), (2, f.moveTimeout), (1, s.position.configured.toNat)]
  | 1 => [(2, s.headLink.period.getD 0)]
  | 2 =>
    (List.finRange 4).flatMap fun (k : Fin 4) =>
      let c := s.headLink.slots[k]
      [(1, k.val), (1, c.enabled.toNat), (1, c.kind.code), (2, c.windowStart),
        (2, c.windowLength), (1, c.lag), (1, c.errorLimit)]
  | 3 =>
    (List.finRange 4).flatMap fun (k : Fin 4) =>
      joined [curve k s.conversion.curves[k], curve k s.conversion.staged[k]]
  | 4 =>
    joined
      [[(2, t.intervalScans), (2, t.darkSettle), (2, t.nDark), (2, t.refSettle), (2, t.nRef), (2, t.stdTimeout),
          (4, t.maxAge)],
        (List.finRange 4).flatMap fun (k : Fin 4) => [(2, t.minSpan[k]), (2, t.driftLimit[k])]]
  | 5 =>
    joined
      [layout s.boxes.layout, layout s.boxes.stagedLayout, [(2, s.boxes.generation.toNat)],
        (List.finRange 8).flatMap fun (z : Fin 8) => zone z s.boxes.zones[z],
        (List.finRange 8).flatMap fun (z : Fin 8) =>
          match s.boxes.stagedZones[z] with
          | some x => (1, 1) :: zone z x
          | none => List.replicate 13 (1, 0)]
  | 6 =>
    let x := s.profile.settings
    joined
      [channel x[0] x[0].minCount, channel x[1] x[1].minCount, channel x[2] x[2].minCount,
        channel x[3] x[3].minCount, channel x[4] channel4.toNat]
  | 7 =>
    [(2, s.conversion.presenceThreshold), (2, s.conversion.absenceThreshold), (2, m.edgeRun), (4, m.edgeShiftLimit),
      (2, m.interiorMargin), (2, m.holeRun), (2, m.breakRun), (2, m.breakDebounce), (2, m.breakHoldoff),
      (1, m.autoresume.toNat), (1, m.resumeLimit)]
  | 8 =>
    (List.finRange 8).flatMap fun (w : Fin 8) =>
      let x := s.headLink.watches[w]
      [(1, w.val), (1, x.enabled.toNat), (1, x.slot.val), (1, x.item.val),
        (1, x.low), (1, x.high)]
  | 9 =>
    (List.finRange 16).flatMap fun (i : Fin 16) =>
      [(1, reactionField s.alarms.sets[i]), (1, fixedField i)]
  | _ => [(1, bitField [s.link.mask.alarm, s.link.mask.scan, s.link.mask.motion, s.link.mask.std])]

/-! ### Requests as frames -/

/-- The request frame whose dispatch a request command stands for; none for the other commands and for
RESTART, which is taken at its arrival (Table 11-11). -/
def requestMessage : Instr → Option Message
  | .identify tag => some ⟨0x01, tag, []⟩
  | .status tag => some ⟨0x02, tag, []⟩
  | .setNotices tag mask => some ⟨0x04, tag, [mask]⟩
  | .getConfig tag group => some ⟨0x05, tag, [group]⟩
  | .home tag => some ⟨0x10, tag, []⟩
  | .start tag => some ⟨0x11, tag, []⟩
  | .stop tag => some ⟨0x12, tag, []⟩
  | .point tag p n => some ⟨0x13, tag, fieldBytes 4 p ++ fieldBytes 2 n⟩
  | .standardize tag u => some ⟨0x14, tag, [u]⟩
  | .setFrame tag b => some ⟨0x20, tag, b.bytes⟩
  | .setLink tag p => some ⟨0x21, tag, fieldBytes 2 p⟩
  | .setSlot tag b => some ⟨0x22, tag, b.bytes⟩
  | .setCurve tag b => some ⟨0x23, tag, b.bytes⟩
  | .setStd tag b => some ⟨0x24, tag, b.bytes⟩
  | .setLayout tag b => some ⟨0x25, tag, b.bytes⟩
  | .setZone tag b => some ⟨0x26, tag, b.bytes⟩
  | .setFilter tag b => some ⟨0x27, tag, b.bytes⟩
  | .setSheet tag b => some ⟨0x28, tag, b.bytes⟩
  | .setWatch tag b => some ⟨0x29, tag, b.bytes⟩
  | .setAlarm tag source r => some ⟨0x2A, tag, [source, r]⟩
  | .readProfile tag c f first n => some ⟨0x30, tag, [c, f] ++ fieldBytes 2 first ++ fieldBytes 2 n⟩
  | .readHistory tag first n => some ⟨0x31, tag, fieldBytes 4 first ++ [n]⟩
  | .readPoint tag first n => some ⟨0x32, tag, fieldBytes 4 first ++ [n]⟩
  | .readHousekeeping tag first n => some ⟨0x33, tag, [first, n]⟩
  | .readStd tag => some ⟨0x34, tag, []⟩
  | .readEdges tag => some ⟨0x35, tag, []⟩
  | .readAlarms tag => some ⟨0x36, tag, []⟩
  | .ack tag source => some ⟨0x38, tag, [source]⟩
  | .drill tag source => some ⟨0x39, tag, [source]⟩
  | .coldReset _ _ | .restart _ | .receiveByte _ | .dispatchRequest | .transmitFrame | .frameSent => none
  | .encoderTransition _ _ | .illegalTransition | .indexPass | .motionTick _ | .reverseDwellExpiry => none
  | .stallTimeout | .moveTimeout | .drvReadyChange _ | .driveReadyWatchExpiry | .limitAssert _ => none
  | .limitRelease _ | .sync | .frameReceived _ | .stdPhaseTimerExpiry | .stdTimeout | .uptimeSecond => none
  | .breakInChange _ | .breakDebounceExpiry | .holdoffExpiry | .alarmSenseChange _ => none
  | .lineReadbackExpiry | .startBit _ _ | .indexLineFall => none

end Sys2Proof.Machine
end

