-- ==== Sys2Proof/Certificates/Slice0/Obligations.lean ====
section
/-! DEFINITION. The statements for the provers, as propositions: the machine and its laws, the line, and what each
command does in every state that meets the hypotheses written out. `s.nextEvent` is s with the event numbered;
`ChangesOnly parts s.nextEvent t` says that t differs from it in those parts alone. -/

open Sys2Proof Sys2Proof.Machine

/-! ### The block as a machine -/

/-- Step takes the command at the front of the queue and runs exec on it with the queue's rest; on an empty queue
the block idles (log entry 3). -/
def Obligations.StepTakesFrontCommand : Prop :=
  (∀ (c : Instr) (s : State), step { s with pending := c :: s.pending } = exec c s) ∧
  ∀ s : State, s.pending = [] → step s = .next s

/-- Every command is a whole event: in every state it answers a next state, with the queue as it was, one event
more numbered and no claim left over (log entries 4 and 10). -/
def Obligations.EveryCommandIsOneEvent : Prop :=
  ∀ (c : Instr) (s : State),
    ∃ t, exec c s = .next t ∧ t.pending = s.pending ∧ t.settled ∧ t.link.eventNo = s.link.eventNo + 1

/-! ### Laws that every step keeps -/

/-- The law of the drive lines (R18) with the duty of a drive that is off (R20), and the law of the shutter (R24),
are kept by every step. -/
def Obligations.LinesLawKept : Prop :=
  ∀ s t : State, DriveLaw s → ShutterLaw s → step s = .next t → DriveLaw t ∧ ShutterLaw t

/-- The law of the turn point (R25), and the law of the reference (R4, R29, R34): only UNREFERENCED, HOMING and HALTED
are held without a reference, and a capture is armed only in HOMING. With the law of the history, whose dwell timer
runs only in REVERSING, both are kept by every step. That the turn point is held through a detour and nowhere else
outside TRAVERSING and REVERSING is the model's reading of R25 and R28 (log entry 21). -/
def Obligations.TravelLawsKept : Prop :=
  ∀ s t : State, TurnLaw s → ReferenceLaw s → HistoryLaw s → step s = .next t →
    TurnLaw t ∧ ReferenceLaw t ∧ HistoryLaw t

/-- The law of the notice queue (R189), the capacities of Table 1-2 of the rings of 16, 32 and 64 and the request
queue of 4, and the law of the banks (R135, R136) are kept by every step: the published bank, or the one that waits
for the end of a hold, is that of the newest COMPLETE record, and a step publishes no other, so that the published
bank's scan is never later than that record. -/
def Obligations.QueueAndBankLawsKept : Prop :=
  ∀ s t : State, NoticeLaw s → CapacityLaw s → BankLaw s → step s = .next t →
    NoticeLaw t ∧ CapacityLaw t ∧ BankLaw t ∧ PublishedInOrder s t

/-- The law of the alarm entries and of ALARM_OUT (R168, R174) is kept by every step. -/
def Obligations.AlarmLawKept : Prop := ∀ s t : State, AlarmLaw s → step s = .next t → AlarmLaw t

/-- The law of the history (R118, R134) and the law of the accumulators (R109, R112) are kept by every step: no count
exceeds 65,535; a scan starts with every accumulator cleared, and while it runs a step leaves them all as they are or
adds one sample of a frame to one of them, so that each sum is that of the samples counted since the scan start. -/
def Obligations.MeasurementLawsKept : Prop :=
  ∀ s t : State, HistoryLaw s → AccumulatorLaw s → step s = .next t →
    HistoryLaw t ∧ AccumulatorLaw t ∧ SamplesSummed s t

/-- Every law holds after a cold reset. -/
def Obligations.LawsHoldAtReset : Prop :=
  DriveLaw State.reset ∧ ShutterLaw State.reset ∧ TurnLaw State.reset ∧ ReferenceLaw State.reset ∧
  NoticeLaw State.reset ∧ AlarmLaw State.reset ∧ BankLaw State.reset ∧ HistoryLaw State.reset ∧
  AccumulatorLaw State.reset ∧ CapacityLaw State.reset

/-- The law of entry to scanning (R29): whatever command brings the traverse into TRAVERSING leaves it ready and
with no source whose reaction set holds PARK or HALT other than CLEAR. -/
def Obligations.ScanEntryIsUnblocked : Prop :=
  ∀ (c : Instr) (s t : State), exec c s = .next t → s.traverse.state ≠ .traversing →
    t.traverse.state = .traversing → t.ready = true ∧ t.blocked = false

/-! ### The line and the bodies of requests -/

/-- A frame on the line begins with the delimiter and holds no second one; sent byte by byte to an assembler in HUNT
it joins the request queue as it was written, when the queue has room and it is no RESTART of length 0, and nothing
else changes (R182, R183, R185, R188). -/
def Obligations.WireFrameJoinsQueue : Prop :=
  (∀ m : Message, m.wire.head? = some 0xF0 ∧ (0xF0 : Byte) ∉ m.wire.tail) ∧
  ∀ (m : Message) (s : State), m.body.length ≤ 1024 → ¬(m.kind = 0x03 ∧ m.body = []) → s.settled →
    s.link.rx = .hunt → s.link.queue.length < 4 →
    runAll (m.wire.map fun b => .receiveByte (.byte b)) s =
      some
        (s.setLink
          { s.link with queue := s.link.queue ++ [m], eventNo := s.link.eventNo + m.wire.length })

/-- The bytes of a request's body are read back as the body, for every request of Table 11-11 with a body of
several fields: the nine SET requests of a block's settings, a SET CURVE body with at most the 204 breakpoints its frame
can hold, and POINT, SET ALARM and the four readouts, whose owners get at dispatch the operands that the bytes carry. -/
def Obligations.BodiesReadBack : Prop :=
  (∀ b : FrameBody, FrameBody.ofBytes b.bytes = b) ∧ (∀ b : SlotBody, SlotBody.ofBytes b.bytes = b) ∧
  (∀ b : CurveBody, b.points.length ≤ maxCurvePoints → CurveBody.ofBytes b.bytes = b) ∧
  (∀ b : StdBody, StdBody.ofBytes b.bytes = b) ∧ (∀ b : LayoutBody, LayoutBody.ofBytes b.bytes = b) ∧
  (∀ b : ZoneBody, ZoneBody.ofBytes b.bytes = b) ∧ (∀ b : FilterBody, FilterBody.ofBytes b.bytes = b) ∧
  (∀ b : SheetBody, SheetBody.ofBytes b.bytes = b) ∧ (∀ b : WatchBody, WatchBody.ofBytes b.bytes = b) ∧
  ∀ (position first : Word32) (a b c d : Byte) (m n : Word16) (s : State),
    handlerOf 0x13 (fieldBytes 4 position ++ fieldBytes 2 n) s = handlePoint position n s ∧
    handlerOf 0x2A [a, b] s = handleSetAlarm a b s ∧
    handlerOf 0x30 ([c, d] ++ fieldBytes 2 m ++ fieldBytes 2 n) s = handleReadProfile c d m n s ∧
    handlerOf 0x31 (fieldBytes 4 first ++ [a]) s = handleReadHistory first a s ∧
    handlerOf 0x32 (fieldBytes 4 first ++ [a]) s = handleReadPoint first a s ∧
    handlerOf 0x33 [a, b] s = handleReadHousekeeping a b s

/-- The settings that a SET request's body brings when it passes its owner's checks are given back by GET CONFIG as
the bytes of that body (R193), group by group: SET FRAME, SET LINK, SET SLOT, SET CURVE and SET LAYOUT and SET ZONE in
force and staged (an absent curve as its slot and n = 0, an absent layout or replacement as zeros), SET STD, SET FILTER
as applied (R130), SET SHEET, SET WATCH, SET ALARM and SET NOTICES. A layout in EDGE mode holds its origin and width as
0 (R103); the min_count byte of channel 4 is a free value (log entry 8). -/
def Obligations.SettingsReadBack : Prop :=
  (∀ b f, FrameBody.check b = some f → f.body = b) ∧
  (∀ b k c, SlotBody.check b = some (k, c) → c.body k = b) ∧
  (∀ b k c, CurveBody.check b = some (k, c) → curveBody k (some c) = b) ∧
  (∀ b t, StdBody.check b = some t → t.body = b) ∧
  (∀ b l, LayoutBody.check b = some l →
    l.body = if b.mode = 0 then b else { b with origin := 0, width := 0 }) ∧
  (∀ b k z, ZoneBody.check b = some (k, z) → z.body k = b) ∧
  (∀ b p a t, SheetBody.check b = some (p, a, t) → t.body p a = b) ∧
  (∀ b k w, WatchBody.check b = some (k, w) → w.body k = b) ∧
  ∀ s : State,
    (∀ b, FrameBody.check b = some s.position.frame →
      s.configBytes 0 = some (b.bytes ++ [if s.position.configured then 1 else 0])) ∧
    (∀ p, readPeriod p = some s.headLink.period → s.configBytes 1 = some (fieldBytes 2 p)) ∧
    (∀ b : Fin 4 → SlotBody, (∀ k : Fin 4, (b k).check = some (k, s.headLink.slots[k])) →
      s.configBytes 2 = some ((b 0).bytes ++ (b 1).bytes ++ (b 2).bytes ++ (b 3).bytes)) ∧
    (∀ force staged : Fin 4 → Option CurveBody,
      (∀ k : Fin 4,
        (force k).map CurveBody.check = (s.conversion.curves[k]).map (fun c => some (k, c)) ∧
        (staged k).map CurveBody.check = (s.conversion.staged[k]).map fun c => some (k, c)) →
      let curve (k : Fin 4) (b : Option CurveBody) : List Byte :=
        match b with
        | some b => 1 :: b.bytes
        | none => [0, BitVec.ofNat 8 k, 0]
      s.configBytes 3 = some ((List.finRange 4).flatMap fun k => curve k (force k) ++ curve k (staged k))) ∧
    (∀ b, StdBody.check b = some s.standardize.settings → s.configBytes 4 = some b.bytes) ∧
    (∀ (force staged : Option LayoutBody) (zones : Fin 8 → ZoneBody) (stagedZones : Fin 8 → Option ZoneBody),
      force.map LayoutBody.check = s.boxes.layout.map some →
      staged.map LayoutBody.check = s.boxes.stagedLayout.map some →
      (∀ z : Fin 8,
        (zones z).check = some (z, s.boxes.zones[z]) ∧
        (stagedZones z).map ZoneBody.check = (s.boxes.stagedZones[z]).map fun x => some (z, x)) →
      let layout (b : Option LayoutBody) : List Byte :=
        match b with
        | some b => 1 :: (if b.mode = 0 then b else { b with origin := 0, width := 0 }).bytes
        | none => List.replicate 10 0
      let zone (b : Option ZoneBody) : List Byte :=
        match b with
        | some b => 1 :: b.bytes
        | none => List.replicate 13 0
      s.configBytes 5 =
        some
          (layout force ++ layout staged ++ fieldBytes 2 s.boxes.generation ++
            ((List.finRange 8).flatMap fun z => (zones z).bytes) ++
            (List.finRange 8).flatMap fun z => zone (stagedZones z))) ∧
    (∀ b, FilterBody.check b = some s.profile.settings →
      let applied (x : ChannelFilterBody) : ChannelFilterBody :=
        { x with k := if x.k.toNat ≤ 7 then x.k else 7, minCount := if x.minCount = 0 then 1 else x.minCount }
      s.configBytes 6 =
        some
          (FilterBody.bytes
            { ch0 := applied b.ch0, ch1 := applied b.ch1, ch2 := applied b.ch2, ch3 := applied b.ch3
              ch4 := { applied b.ch4 with minCount := Config.channel4MinCount s.link.eventNo } })) ∧
    (∀ b, SheetBody.check b =
        some (s.conversion.presenceThreshold, s.conversion.absenceThreshold, s.edges.settings) →
      s.configBytes 7 = some b.bytes) ∧
    (∀ b : Fin 8 → WatchBody, (∀ w : Fin 8, (b w).check = some (w, s.headLink.watches[w])) →
      s.configBytes 8 = some ((List.finRange 8).flatMap fun w => (b w).bytes)) ∧
    (∀ r : Fin 16 → Byte, (∀ i : Fin 16, readReactions (r i) = some s.alarms.sets[i]) →
      s.configBytes 9 =
        some ((List.finRange 16).flatMap fun (i : Fin 16) =>
          [r i,
            if i ∈ [srcDriveFault, srcStall, srcLimit, srcEncoder, srcMoveTimeout] then 4
            else if i = srcLineCheck then 8 else 0])) ∧
    ∀ m, readMask m = some s.link.mask → s.configBytes 10 = some [m]

/-- The dispatch of a queued request is the command of the same name (R186): with the request alone in the queue
and the link otherwise free, DISPATCH_REQUEST does what the command does on an empty queue. That a request command is
dispatched at once on a free link is the model's choice (log entry 4). -/
def Obligations.DispatchRunsCommand : Prop :=
  ∀ (c : Instr) (m : Message) (s : State), c.WellFormed = true → requestMessage c = some m →
    s.link.slot = none → s.link.readout = none → s.link.queue = [m] →
    exec .dispatchRequest s = exec c (s.setLink { s.link with queue := [] })

/-- A request command that finds the link not free waits as its frame would (R185): it joins a queue with room, is
refused with BUSY when the queue is full, and is dropped with OVERRUN when a refusal still waits. That a request
command waits so is the model's choice (log entry 4). -/
def Obligations.RequestsWait : Prop :=
  ∀ (c : Instr) (m : Message) (s : State), c.WellFormed = true → requestMessage c = some m → s.settled →
    ¬s.linkFree →
    (s.link.queue.length < 4 →
      exec c s = .next (s.nextEvent.setLink { s.nextEvent.link with queue := s.link.queue ++ [m] })) ∧
    (4 ≤ s.link.queue.length → s.link.refusal = none →
      exec c s =
        .next
          (s.nextEvent.setLink
            { s.nextEvent.link with
              refusal := some
                { message := { kind := m.kind + 0x80, tag := m.tag, body := [3] }
                  ready := s.link.eventNo + 1 } })) ∧
    (4 ≤ s.link.queue.length → s.link.refusal ≠ none →
      exec c s = .next (s.nextEvent.setLink { s.nextEvent.link with lastError := .overrun }))

/-! ### Position Unit -/

/-- ENCODER_TRANSITION (R1): a changed pair moves the counter by one tick, up along 00, 10, 11, 01 with the sense
NORMAL and down along it with REVERSED, and becomes the decoder state; the same pair changes nothing; a pair with
both lines changed is the illegal transition of R2. -/
def Obligations.EncoderTransitionCounts : Prop :=
  ∀ (a b : Bool) (s : State), s.settled →
    (a = s.position.encA ∧ b = s.position.encB → exec (.encoderTransition a b) s = .next s.nextEvent) ∧
    (¬(a = s.position.encA ↔ b = s.position.encB) →
      exec (.encoderTransition a b) s =
        .next
          (s.nextEvent.setPosition
            { s.position with
              encA := a, encB := b
              counter :=
                if (a = !s.position.encB ∧ b = s.position.encA) ↔ s.position.frame.encDir = .normal then
                  s.position.counter + 1
                else s.position.counter - 1 })) ∧
    (a ≠ s.position.encA ∧ b ≠ s.position.encB →
      exec (.encoderTransition a b) s = exec .illegalTransition s)

/-- ILLEGAL_TRANSITION (R2): the counter stands, the new pair becomes the decoder state, the reference is LOST and
the capture disarmed, an ENCODER occurrence with the counter as its detail is raised; the HALT of the fixed set
follows from CLEAR, and a loss of reference met with the entry not CLEAR leaves UNREFERENCED (R34). The occurrence and a
change of the traverse are told in notices (R17, R172). -/
def Obligations.IllegalTransitionLosesReference : Prop :=
  ∀ s : State, s.settled →
    ∃ t, exec .illegalTransition s = .next t ∧
      t.position =
        { s.position with
          encA := !s.position.encA, encB := !s.position.encB, reference := .lost, captureArmed := false } ∧
      Occurred srcEncoder (some (.transition s.position.counter.toInt)) false s t ∧
      HaltedBy srcEncoder s t ∧
      (s.alarms.entries[srcEncoder].state ≠ .clear → s.position.reference ≠ .lost →
        (∀ c, s.traverse.state ≠ .halted c) → t.traverse.state = .unreferenced) ∧
      ChangesOnly motionParts s.nextEvent t

/-- INDEX_PASS and INDEX_LINE_FALL (R6, R7, R8): a pass while the line is asserted is none; an armed capture in
HOMING takes home_position as the count and goes on to park; in REFERENCED a count within index_tolerance passes
and one beyond it loses the reference; any other pass is ignored; the fall makes the next rise a pass. What
changes is told in notices (R17, R172), an error that its field cannot hold as a free value (log entry 47). -/
def Obligations.IndexPassTaken : Prop :=
  ∀ s : State, s.settled →
    (s.position.indexAsserted = true → exec .indexPass s = .next s.nextEvent) ∧
    (s.position.indexAsserted = false → s.position.captureArmed = false →
      (s.position.reference = .referenced →
        (s.position.counter.toInt - s.position.frame.homePosition).natAbs ≤ s.position.frame.indexTolerance) →
      exec .indexPass s = .next (s.nextEvent.setPosition { s.position with indexAsserted := true })) ∧
    (s.position.indexAsserted = false → s.position.captureArmed = false → s.position.reference = .referenced →
      s.position.frame.indexTolerance < (s.position.counter.toInt - s.position.frame.homePosition).natAbs →
      ∃ t, exec .indexPass s = .next t ∧
        t.position = { s.position with indexAsserted := true, reference := .lost } ∧
        Occurred srcEncoder
          (some (.indexError s.position.counter.toInt (s.position.counter.toInt - s.position.frame.homePosition)))
          false s t ∧
        HaltedBy srcEncoder s t ∧ t.traverse.state.driveOn = false ∧ ChangesOnly motionParts s.nextEvent t) ∧
    (∀ p, s.position.indexAsserted = false → s.position.captureArmed = true → s.traverse.state = .homing p →
      s.position.reference ≠ .referenced →
      ∃ t, exec .indexPass s = .next t ∧
        t.position =
          { s.position with
            indexAsserted := true, counter := BitVec.ofNat 32 s.position.frame.homePosition
            reference := .referenced, captureArmed := false } ∧
        t.traverse.state =
          .positioning
            { purpose := .toPark .homed, target := s.frame.clamp s.position.frame.parkPosition, phase := .run } ∧
        t.traverse.holder = some .host ∧ MotionNoticed s t ∧
        ChangesOnly [.position, .traverse, .edges, .notices] s.nextEvent t) ∧
    exec .indexLineFall s = .next (s.nextEvent.setPosition { s.position with indexAsserted := false })

/-! ### Motion ticks -/

/-- MOTION_TICK in a state whose demand is held at 0 (R18, R19): the tick samples HOME_SW and runs the watches,
the counts and the duty, and moves neither the state nor the demand. MOTION_TICK in TRAVERSING with the turn point
farther than the braking distance (R19, R20, R21, R27): the demand moves by accel_step toward scan_speed in the scan
direction, or toward 0 while the drive points the other way; the duty follows it; the scan goes on. At either tick the
running scan's millisecond count (R119) and a running hold-off's remaining time (log entry 11) count one. At every
tick of a drive that stays on the stall timer counts a millisecond while DRV_EN is asserted, the demand is at
stall_speed or more and the count stands where the last tick found it, and otherwise returns to 0 (R40). That the tick
judges by the demand and the count as it finds them, that the timer is held at stall_time until STALL_TIMEOUT is sent,
and that it is left alone while the drive is off is the model's reading (log entry 15). -/
def Obligations.TickHoldsOrCruises : Prop :=
  ∀ (homeSw : Bool) (s : State), s.settled →
    let f := s.position.frame
    let stalled : Nat :=
      if s.traverse.drvEn = false then s.traverse.stallTimer
      else if f.stallSpeed ≤ s.traverse.speed ∧ s.position.counter = s.traverse.prevPosition then
        min f.stallTime (s.traverse.stallTimer + 1)
      else 0
    let counted (t : State) : Prop :=
      t.position = { s.position with homeSw := homeSw } ∧
      t.profile =
        { s.profile with
          context := s.profile.context.map fun c => { c with millis := min 4294967295 (c.millis + 1) } } ∧
      t.edges =
        { s.edges with
          holdoff := match s.edges.holdoff with
            | .running n => .running (n - 1)
            | h => h } ∧
      ChangesOnly [.position, .traverse, .profile, .edges] s.nextEvent t
    (s.traverse.state.atRest = true → s.traverse.speed = 0 →
      ∃ t, exec (.motionTick homeSw) s = .next t ∧ counted t ∧
        t.traverse =
          { s.traverse with stallTimer := stalled, prevPosition := s.position.counter, duty := 0 }) ∧
    (∃ t, exec (.motionTick homeSw) s = .next t ∧ t.traverse.prevPosition = s.position.counter ∧
      (t.traverse.state.driveOn = true → t.traverse.stallTimer = stalled)) ∧
    ∀ p : Int, s.traverse.state = .traversing → s.traverse.turnPoint = some p →
      let drive := s.traverse.drive s.traverse.scanDir
      let speed := stepToward f.accelStep s.traverse.speed (if drive = s.traverse.scanDir then f.scanSpeed else 0)
      (s.traverse.speed * s.traverse.speed / (2000 * f.accelStep) + s.traverse.speed / 1000 + 1 : Nat) <
          drive.ahead (p - s.position.counter.toInt) →
      ∃ t, exec (.motionTick homeSw) s = .next t ∧ counted t ∧
        t.traverse =
          { s.traverse with
            driveDir := drive, speed := speed
            duty := min 4095 ((2 * (speed * 4095) + f.vFull) / (2 * f.vFull))
            stallTimer := stalled, prevPosition := s.position.counter }

/-- MOTION_TICK in TRAVERSING at the braking distance (R27, R93, R120, R133, R135, R148, R149): the scan closes. Its
record is the newest of the history, COMPLETE and ending at the counter, with its edges and holes. Its bank is written,
the one neither held nor published, and published or, while a readout holds a bank, left waiting. Each side of the edge
table takes the edge found, or BEYOND on a trailing side that ends in sheet at the soft limit, or stands; a FOUND side
that moves beyond edge_shift_limit raises EDGE_SHIFT. The schedule counter counts the close and REVERSING ramps down
from this tick on (log entry 17), unless PROFILE_THIN or EDGE_SHIFT claims the drive. A scan closed at a demand of
accel_step or less may be followed by the next one in the same tick, which a staged layout opens by withdrawing
publication. The SCAN notice tells the record and whether its bank was published or left waiting (R138), and a MOTION
notice the state reached (R17). That the closing tick counts in the duration (log entry 36) and that edge_run is read
at the close (log entry 43) is the model's reading. -/
def Obligations.TickClosesScan : Prop :=
  ∀ (homeSw : Bool) (c : ScanContext) (s : State), s.settled → s.closesAtTick → s.profile.context = some c →
    let f := s.position.frame
    ∃ t r w bank, exec (.motionTick homeSw) s = .next t ∧
      t.profile.history.getLast? = some r ∧ r.scan = c.scan ∧ r.dir = c.dir ∧ r.abandoned = none ∧
      r.startPosition = c.startPosition ∧ r.endPosition = s.position.counter.toInt ∧
      r.duration = min 4294967295 (c.millis + 1) ∧ EdgesHanded s r ∧
      t.profile.banks[w] = some bank ∧ bank.scan = c.scan ∧ t.profile.lastWritten = w ∧
      t.profile.held = s.profile.held ∧ (∀ h, s.profile.held = some h → w ≠ h) ∧
      (s.profile.held = none → ∀ b, s.profile.published = some b → w ≠ b) ∧
      (s.profile.held = none → s.profile.published = none → w ≠ s.profile.lastWritten) ∧
      (let withdrawn : Prop := t.traverse.state = .traversing ∧ s.boxes.stagedLayout ≠ none
       (withdrawn → t.profile.published = none ∧ t.profile.waiting = none) ∧
       (¬withdrawn → s.profile.held = none → t.profile.published = some w ∧ t.profile.waiting = none) ∧
       (¬withdrawn → s.profile.held ≠ none →
         t.profile.published = s.profile.published ∧ t.profile.waiting = some w)) ∧
      (∀ k, s.edges.context = some k →
        let old (high : Bool) : EdgeEntry := if high then s.edges.high else s.edges.low
        let found (high : Bool) : Option Int := if high then r.highEdge else r.lowEdge
        let beyond (high : Bool) : Prop :=
          (high = true ↔ k.dir = .fwd) ∧ k.lastReading = some .present ∧
            s.traverse.turnPoint = some (if high then (f.travelMax : Int) else f.travelMin)
        let written (high : Bool) (e : EdgeEntry) : Prop :=
          (∀ q, found high = some q →
            e =
              { state := .found, find := some (q, k.scan)
                shift :=
                  if (old high).state = .found then (old high).find.map fun x => q - x.1 else none }) ∧
          (found high = none → beyond high → e = { old high with state := .beyond }) ∧
          (found high = none → ¬beyond high → e = old high)
        let moved (high : Bool) (o q : Int) : Prop :=
          (old high).state = .found ∧ (∃ n, (old high).find = some (o, n)) ∧ found high = some q ∧
            s.edges.settings.edgeShiftLimit < (q - o).natAbs
        written true t.edges.high ∧ written false t.edges.low ∧
        (∀ high o q, moved high o q → (∀ o' q', ¬moved (!high) o' q') →
          Occurred srcEdgeShift (some (.edgeShift high o q)) false s t) ∧
        (∀ o q o' q', moved true o q → moved false o' q' →
          Reported srcEdgeShift s t ∧ t.alarms.entries[srcEdgeShift].state ≠ .clear ∧
          t.alarms.entries[srcEdgeShift].count =
            if s.alarms.entries[srcEdgeShift].state = .clear then 2
            else min 255 (s.alarms.entries[srcEdgeShift].count + 2)) ∧
        ((∀ high o q, ¬moved high o q) →
          t.alarms.entries[srcEdgeShift] = s.alarms.entries[srcEdgeShift])) ∧
      Posted .scan (r.notice (if s.profile.held = none then 1 else 2)) s t ∧ Posted .motion t.motionNotice s t ∧
      t.standardize = { s.standardize with scheduleCounter := min 65535 (s.standardize.scheduleCounter + 1) } ∧
      (t.traverse.state ≠ .traversing →
        t.traverse.runningScan = none ∧ t.profile.context = none ∧ t.edges.context = none ∧
        t.conversion = s.conversion ∧ t.boxes = s.boxes) ∧
      (t.traverse.state = .traversing →
        s.traverse.speed ≤ f.accelStep ∧ f.reverseDwell = 0 ∧ (s.setStandardize t.standardize).standardizeDue = false ∧
        t.traverse.scanDir = s.traverse.scanDir.flip ∧ t.traverse.runningScan = some s.profile.nextScan ∧
        t.profile.context.map ScanContext.scan = some s.profile.nextScan) ∧
      (f.accelStep < s.traverse.speed →
        (∀ i ∈ [srcEdgeShift, srcProfileThin], s.alarms.sets[i].park = false ∧ s.alarms.sets[i].halt = false) →
        t.traverse.state = .reversing ∧ t.traverse.speed = s.traverse.speed - f.accelStep ∧
        t.traverse.detour = (s.setStandardize t.standardize).standardizeDue) ∧
      ChangesOnly [.position, .traverse, .conversion, .standardize, .boxes, .profile, .edges, .alarms, .notices]
        s.nextEvent t

/-- MOTION_TICK in POSITIONING before the move is complete (R19, R21, R22). Outside arrive_tolerance: in RUN the
demand moves toward move_speed, or toward 0 within the braking distance, and a RUN that comes to rest with the
drive toward the target goes into CREEP, else it stays in RUN; in CREEP the demand moves toward creep_speed. Within
arrive_tolerance the demand falls; that a RUN there aims at 0 is the model's reading (log entry 16). -/
def Obligations.TickMoves : Prop :=
  ∀ (homeSw : Bool) (m : Move) (s : State), s.settled → s.traverse.state = .positioning m →
    let f := s.position.frame
    let d := m.target - s.position.counter.toInt
    let aim : Dir := if 0 < d then .fwd else .rev
    let drive := s.traverse.drive aim
    (m.phase = .run → f.arriveTolerance < d.natAbs →
      let target :=
        if drive.ahead d ≤
            (s.traverse.speed * s.traverse.speed / (2000 * f.accelStep) + s.traverse.speed / 1000 + 1 : Nat) then 0
        else f.moveSpeed
      let speed := stepToward f.accelStep s.traverse.speed target
      ∃ t, exec (.motionTick homeSw) s = .next t ∧ t.traverse.speed = speed ∧ t.traverse.driveDir = drive ∧
        t.traverse.state =
          .positioning { m with phase := if speed = 0 ∧ drive = aim then .creep else .run } ∧
        ChangesOnly [.position, .traverse, .profile, .edges] s.nextEvent t) ∧
    (m.phase = .creep → f.arriveTolerance < d.natAbs →
      ∃ t, exec (.motionTick homeSw) s = .next t ∧
        t.traverse.speed =
          stepToward f.accelStep s.traverse.speed (if drive = aim then f.creepSpeed else 0) ∧
        t.traverse.driveDir = drive ∧ t.traverse.state = .positioning m ∧
        ChangesOnly [.position, .traverse, .profile, .edges] s.nextEvent t) ∧
    (d.natAbs ≤ f.arriveTolerance → f.accelStep < s.traverse.speed →
      ∃ t, exec (.motionTick homeSw) s = .next t ∧ t.traverse.speed = s.traverse.speed - f.accelStep ∧
        t.traverse.state = .positioning m ∧
        ChangesOnly [.position, .traverse, .profile, .edges] s.nextEvent t)

/-- MOTION_TICK that brings a move to rest within arrive_tolerance of its target (R22): PARKED with the move's cause,
STANDARDIZING with a cycle begun and the shutter closed, DWELLING with a dwell opened at the target, or, for a move
TO_TURN, TRAVERSING in the direction the move records; where the scan start is refused (R29), a move to park with cause
CONFIG when a readiness fails and REACTION when a source blocks. The cycle (R84, R85) has the pending request's option
and cause REQUEST, or START on the way to the LOW turn point, or SCHEDULED; it begins in DARK_SETTLE with its phase
timer, or in DARK with dark_settle 0, its timeout running and an empty collection for every enabled slot. A park with
cause BREAK that finds the hold-off DUE makes its resume step as well (R155, R156), with autoresume and resume_limit as
they stand then (log entry 44). A MOTION notice tells each arrival (R17). -/
def Obligations.TickCompletesMove : Prop :=
  ∀ (homeSw : Bool) (m : Move) (s : State), s.settled → s.traverse.state = .positioning m →
    (m.target - s.position.counter.toInt).natAbs ≤ s.position.frame.arriveTolerance →
    s.traverse.speed ≤ s.position.frame.accelStep →
    (∀ c, m.purpose = .toPark c → ¬(c = .brk ∧ s.edges.holdoff = .due) →
      ∃ t, exec (.motionTick homeSw) s = .next t ∧ t.traverse.state = .parked c ∧ t.traverse.holder = none ∧
        t.traverse.moveTimer = none ∧ t.traverse.speed = 0 ∧ t.traverse.shutter = false ∧ MotionNoticed s t ∧
        ChangesOnly [.position, .traverse, .profile, .edges, .notices] s.nextEvent t) ∧
    (m.purpose = .toPark .brk → s.edges.holdoff = .due →
      ∃ t, exec (.motionTick homeSw) s = .next t ∧ ResumeStepMade s t ∧ t.traverse.speed = 0 ∧
        t.traverse.shutter = false ∧
        ChangesOnly [.position, .traverse, .profile, .edges, .alarms, .notices] s.nextEvent t) ∧
    (∀ d, m.purpose = .toStd d →
      ∃ t c, exec (.motionTick homeSw) s = .next t ∧ t.traverse.state = .standardizing d ∧
        t.traverse.holder = s.traverse.holder ∧ t.traverse.speed = 0 ∧ t.traverse.shutter = false ∧
        t.standardize = { s.standardize with cycle := some c } ∧
        (let settle := s.standardize.settings.darkSettle
         c =
          { cause :=
              if s.standardize.pendingRequest ≠ none then .request else if d = .turnLow then .start else .scheduled
            unconditional := s.standardize.pendingRequest = some true, settings := s.standardize.settings
            phase := if settle = 0 then .dark else .darkSettle
            phaseTimer := if settle = 0 then none else some settle
            timeoutTimer := some s.standardize.settings.stdTimeout, startedAt := s.link.uptime, slots := c.slots }) ∧
        (∀ k : Fin 4,
          c.slots[k] =
            if s.headLink.slots[k].enabled then
              some { state := .dark, darkSum := 0, darkCount := 0, refSum := 0, refCount := 0 }
            else none) ∧
        MotionNoticed s t ∧
        ChangesOnly [.position, .traverse, .standardize, .profile, .edges, .notices] s.nextEvent t) ∧
    (∀ n, m.purpose = .toPoint n →
      ∃ t d, exec (.motionTick homeSw) s = .next t ∧ t.traverse.state = .dwelling ∧
        t.traverse.holder = some .host ∧ t.traverse.speed = 0 ∧ t.traverse.shutter = true ∧
        t.point = { ring := [], dwell := .opened d } ∧ d.target = m.target ∧ d.blockLength = n ∧ d.block = 1 ∧
        d.syncs = 0 ∧ d.channels = s.enabledSlots ∧ MotionNoticed s t ∧
        ChangesOnly [.position, .traverse, .profile, .edges, .point, .notices] s.nextEvent t) ∧
    ∀ dir ret, m.purpose = .toTurn dir ret →
      (∀ cause : ParkCause,
        cause = .config ∧ s.readyAtStart = false ∨ cause = .reaction ∧ s.readyAtStart = true ∧ s.blocked = true →
        ∃ t, exec (.motionTick homeSw) s = .next t ∧
          t.traverse.state =
            .positioning
              { purpose := .toPark cause, target := s.frame.clamp s.position.frame.parkPosition, phase := .run } ∧
          t.traverse.holder = some .scanProgram ∧ t.traverse.scanDir = s.traverse.scanDir ∧ t.traverse.speed = 0 ∧
          t.traverse.moveTimer = some s.position.frame.moveTimeout ∧ t.traverse.shutter = false ∧ MotionNoticed s t ∧
          ChangesOnly [.position, .traverse, .profile, .edges, .notices] s.nextEvent t) ∧
      (s.readyAtStart = true → s.blocked = false →
        ∃ t, exec (.motionTick homeSw) s = .next t ∧ t.traverse.state = .traversing ∧
          t.traverse.scanDir = dir ∧ t.traverse.runningScan = some s.profile.nextScan ∧
          t.traverse.turnPoint = some (s.turnPointFor dir) ∧ t.traverse.shutter = true ∧ MotionNoticed s t ∧
          ChangesOnly [.position, .traverse, .conversion, .boxes, .profile, .edges, .notices] s.nextEvent t)

/-- MOTION_TICK in HOMING (R36): LEAVE creeps FWD until HOME_SW reads released, SEEK runs REV at homing_speed until
it reads asserted and then arms the capture, APPROACH creeps REV. The phase moves before the tick's ramp (log
entry 14). -/
def Obligations.TickHomes : Prop :=
  ∀ (homeSw : Bool) (phase : HomingPhase) (s : State), s.settled → s.traverse.state = .homing phase →
    let f := s.position.frame
    let arms : Bool := phase = .seek && homeSw
    let next : HomingPhase :=
      match phase with
      | .leave => if homeSw then .leave else .seek
      | .seek => if homeSw then .approach else .seek
      | .approach => .approach
    let want : Dir := if next = .leave then .fwd else .rev
    let cruise := if next = .seek then f.homingSpeed else f.creepSpeed
    let drive := s.traverse.drive want
    ∃ t, exec (.motionTick homeSw) s = .next t ∧ t.traverse.state = .homing next ∧
      t.position = { s.position with homeSw := homeSw, captureArmed := arms || s.position.captureArmed } ∧
      t.traverse.driveDir = drive ∧
      t.traverse.speed = stepToward f.accelStep s.traverse.speed (if drive = want then cruise else 0) ∧
      ChangesOnly [.position, .traverse, .profile, .edges] s.nextEvent t

/-- MOTION_TICK in REVERSING (R28): the demand falls by accel_step; at the tick at which it reaches 0 a decided
detour begins its move to std_position, keeping the turn point; otherwise a dwell timer that does not yet run is
started with reverse_dwell ms, or, with reverse_dwell 0, the direction flips and the next scan starts when its
checks pass. A MOTION notice tells the change (R17). -/
def Obligations.TickReverses : Prop :=
  ∀ (homeSw : Bool) (s : State), s.settled → s.traverse.state = .reversing →
    let f := s.position.frame
    (f.accelStep < s.traverse.speed →
      ∃ t, exec (.motionTick homeSw) s = .next t ∧ t.traverse.state = .reversing ∧
        t.traverse.speed = s.traverse.speed - f.accelStep ∧
        ChangesOnly [.position, .traverse, .profile, .edges] s.nextEvent t) ∧
    (s.traverse.speed ≤ f.accelStep → s.traverse.detour = true →
      ∃ t, exec (.motionTick homeSw) s = .next t ∧
        t.traverse.state =
          .positioning { purpose := .toStd .ret, target := s.frame.clamp f.stdPosition, phase := .run } ∧
        t.traverse.holder = some .scheduledStd ∧ t.traverse.turnPoint = s.traverse.turnPoint ∧
        t.traverse.scanDir = s.traverse.scanDir ∧ t.traverse.speed = 0 ∧ MotionNoticed s t ∧
        ChangesOnly [.position, .traverse, .profile, .edges, .notices] s.nextEvent t) ∧
    (s.traverse.speed ≤ f.accelStep → s.traverse.detour = false → s.traverse.dwellTimer = none →
      f.reverseDwell ≠ 0 →
      ∃ t, exec (.motionTick homeSw) s = .next t ∧ t.traverse.state = .reversing ∧
        t.traverse.dwellTimer = some f.reverseDwell ∧ t.traverse.speed = 0 ∧
        ChangesOnly [.position, .traverse, .profile, .edges] s.nextEvent t) ∧
    (s.traverse.speed ≤ f.accelStep → s.traverse.detour = false → s.traverse.dwellTimer = none →
      f.reverseDwell = 0 → s.readyAtStart = true → s.blocked = false →
      ∃ t, exec (.motionTick homeSw) s = .next t ∧ t.traverse.state = .traversing ∧
        t.traverse.scanDir = s.traverse.scanDir.flip ∧ t.traverse.runningScan = some s.profile.nextScan ∧
        MotionNoticed s t ∧ ChangesOnly [.position, .traverse, .conversion, .boxes, .profile, .edges, .notices] s.nextEvent t)

/-! ### Timers and lines of the traverse -/

/-- REVERSE_DWELL_EXPIRY (R28, R29, R25): the direction flips, and the scan start is refused with a move to park with
cause CONFIG when a readiness fails, with cause REACTION when a source blocks, and otherwise made: the next scan
number, the turn point from the edge table, TRAVERSING with the shutter open, and the scan marked STD_EXPIRED if that
condition stands (R97). A MOTION notice tells the change (R17). That the direction stays flipped at a refused start is
the model's choice (log entry 20). Without a running dwell timer nothing happens (log entry 2). -/
def Obligations.DwellExpiryStartsScan : Prop :=
  ∀ s : State, s.settled →
    (s.traverse.dwellTimer = none → exec .reverseDwellExpiry s = .next s.nextEvent) ∧
    (s.traverse.dwellTimer ≠ none →
      let dir := s.traverse.scanDir.flip
      let f := s.position.frame
      (s.readyAtStart = false →
        ∃ t, exec .reverseDwellExpiry s = .next t ∧
          t.traverse.state =
            .positioning { purpose := .toPark .config, target := s.frame.clamp f.parkPosition, phase := .run } ∧
          t.traverse.holder = some .scanProgram ∧ t.traverse.scanDir = dir ∧ MotionNoticed s t ∧
          ChangesOnly [.traverse, .edges, .notices] s.nextEvent t) ∧
      (s.readyAtStart = true → s.blocked = true →
        ∃ t, exec .reverseDwellExpiry s = .next t ∧
          t.traverse.state =
            .positioning { purpose := .toPark .reaction, target := s.frame.clamp f.parkPosition, phase := .run } ∧
          t.traverse.holder = some .scanProgram ∧ t.traverse.scanDir = dir ∧ MotionNoticed s t ∧
          ChangesOnly [.traverse, .edges, .notices] s.nextEvent t) ∧
      (s.readyAtStart = true → s.blocked = false →
        ∃ t c, exec .reverseDwellExpiry s = .next t ∧ t.traverse.state = .traversing ∧
          t.traverse.holder = some .scanProgram ∧ t.traverse.shutter = true ∧ t.traverse.scanDir = dir ∧
          t.traverse.runningScan = some s.profile.nextScan ∧ t.traverse.turnPoint = some (s.turnPointFor dir) ∧
          t.profile.nextScan = nextNumber s.profile.nextScan ∧ t.profile.context = some c ∧
          c.scan = s.profile.nextScan ∧ c.dir = dir ∧ c.startPosition = s.position.counter.toInt ∧
          c.millis = 0 ∧ c.channels = s.channelSet ∧ c.stdExpired = decide (s.standardize.expiredSlots ≠ 0) ∧
          MotionNoticed s t ∧ t.boxes.accumulators = Vector.replicate 4 [] ∧
          t.boxes.stagedLayout = none ∧ t.conversion.staged = Vector.replicate 4 none ∧
          ChangesOnly [.traverse, .conversion, .boxes, .profile, .edges, .notices] s.nextEvent t)) ∧
    (∀ dir, s.turnPointFor dir =
      s.frame.clamp
        (match dir with
         | .fwd =>
           match s.edges.high.state, s.edges.high.find with
           | .found, some (p, _) => p + s.position.frame.overtravel
           | _, _ => s.position.frame.travelMax
         | .rev =>
           match s.edges.low.state, s.edges.low.find with
           | .found, some (p, _) => p - s.position.frame.overtravel
           | _, _ => s.position.frame.travelMin))

/-- STALL_TIMEOUT and MOVE_TIMEOUT (R40, R42): the occurrence with its detail, the timer returned to 0 or stopped,
homing ended, and the HALT of the fixed set. DRV_READY_CHANGE and
DRIVE_READY_WATCH_EXPIRY (R41): a change of level while DRV_EN is asserted starts the 10 ms watch when the level
speaks against the condition as it stands, and stops it otherwise; the expiry starts the DRIVE_FAULT condition, whose
HALT then ends it, or ends it. An expiry without its timer and a change to the same level do nothing (log entry
2). The entries and the traverse are told in notices as they change (R17, R172), a MOVE_TIMEOUT in HOMING as log entry
34 has it. -/
def Obligations.DriveWatchesExpire : Prop :=
  ∀ s : State, s.settled →
    (s.traverse.drvEn = true → s.position.frame.stallTime ≤ s.traverse.stallTimer →
      ∃ t, exec .stallTimeout s = .next t ∧
        Occurred srcStall (some (.stall s.position.counter.toInt s.traverse.speed s.traverse.state)) false s t ∧
        HaltedBy srcStall s t ∧ t.traverse.stallTimer = 0 ∧ ChangesOnly motionParts s.nextEvent t) ∧
    (¬(s.traverse.drvEn = true ∧ s.position.frame.stallTime ≤ s.traverse.stallTimer) →
      exec .stallTimeout s = .next s.nextEvent) ∧
    (s.traverse.moveTimer ≠ none →
      ∃ t, exec .moveTimeout s = .next t ∧
        Occurred srcMoveTimeout (some (.moveTimeout s.traverse.state s.position.counter.toInt)) false s t ∧
        HaltedBy srcMoveTimeout s t ∧ (s.alarms.entries[srcMoveTimeout].state ≠ .clear → t.traverse.moveTimer = none) ∧
        (∀ p, s.traverse.state = .homing p → t.position.captureArmed = false ∧ t.traverse.state.driveOn = false) ∧
        ChangesOnly motionParts s.nextEvent t) ∧
    (s.traverse.moveTimer = none → exec .moveTimeout s = .next s.nextEvent) ∧
    (∀ level : Bool, level = s.traverse.drvReady → exec (.drvReadyChange level) s = .next s.nextEvent) ∧
    (∀ level : Bool, level ≠ s.traverse.drvReady →
      exec (.drvReadyChange level) s =
        .next
          (s.nextEvent.setTraverse
            { s.traverse with
              drvReady := level
              readyWatch := if s.traverse.drvEn = true ∧ level = s.traverse.driveFault then some 10 else none })) ∧
    (s.traverse.readyWatch = none → exec .driveReadyWatchExpiry s = .next s.nextEvent) ∧
    (s.traverse.readyWatch ≠ none → s.traverse.driveFault = true →
      ∃ t, exec .driveReadyWatchExpiry s = .next t ∧
        t.traverse = { s.traverse with readyWatch := none, driveFault := false } ∧
        t.alarms.entries[srcDriveFault].state =
          (match s.alarms.entries[srcDriveFault].state with
           | .active => .latched
           | .activeAcked => .clear
           | x => x) ∧
        ChangeReported srcDriveFault s t ∧ ChangesOnly [.traverse, .alarms, .notices] s.nextEvent t) ∧
    (s.traverse.readyWatch ≠ none → s.traverse.driveFault = false → s.traverse.state.driveOn = true →
      s.alarms.entries[srcDriveFault].state = .clear → s.alarms.sets[srcDriveFault].halt = true →
      ∃ t, exec .driveReadyWatchExpiry s = .next t ∧ (∃ c, t.traverse.state = .halted c) ∧
        t.traverse.driveFault = false ∧ t.alarms.entries[srcDriveFault].state = .latched ∧
        t.alarms.entries[srcDriveFault].count = 1 ∧ Reported srcDriveFault s t ∧ MotionNoticed s t ∧
        ChangesOnly motionParts s.nextEvent t)

/-- LIMIT_ASSERT and LIMIT_RELEASE (R39, R32, R36): the assertion of a line that was low halts with cause LIMIT, the
drive off, the demand 0 and the shutter closed, and the LIMIT condition stands with the lines asserted as its
detail; LIMIT_LO in HOMING raises HOME_FAILED too. The release of one of two lines
changes its detail, that of the last line ends it. An assertion of a line
already asserted and a release of one not asserted do nothing (log entry 2). The entry and the traverse are told in
notices as they change (R17, R172). -/
def Obligations.LimitLinesHalt : Prop :=
  ∀ (line : LimitLine) (s : State), s.settled →
    let lo := s.traverse.limitLo || line = .lo
    let hi := s.traverse.limitHi || line = .hi
    let asserted := match line with
      | .lo => s.traverse.limitLo
      | .hi => s.traverse.limitHi
    let stays := match line with
      | .lo => s.traverse.limitHi
      | .hi => s.traverse.limitLo
    (asserted = true → exec (.limitAssert line) s = .next s.nextEvent) ∧
    (asserted = false →
      ∃ t, exec (.limitAssert line) s = .next t ∧ t.traverse.state = .halted .limit ∧ t.traverse.speed = 0 ∧
        t.traverse.duty = 0 ∧ t.traverse.drvEn = false ∧ t.traverse.shutter = false ∧
        t.traverse.holder = some .halt ∧ t.traverse.limitLo = lo ∧ t.traverse.limitHi = hi ∧
        (t.alarms.entries[srcLimit].state = .active ∨ t.alarms.entries[srcLimit].state = .activeAcked) ∧
        (∀ e, t.alarms.entries[srcLimit].episode = some e → e.detail = some (.lines lo hi)) ∧
        (∀ p, s.traverse.state = .homing p → line = .lo →
          Occurred srcHomeFailed (some (.position s.position.counter.toInt)) false s t) ∧
        ChangeReported srcLimit s t ∧ MotionNoticed s t ∧ ChangesOnly motionParts s.nextEvent t) ∧
    (asserted = false → exec (.limitRelease line) s = .next s.nextEvent) ∧
    (asserted = true → stays = true →
      (s.alarms.entries[srcLimit].state = .active ∨ s.alarms.entries[srcLimit].state = .activeAcked) →
      ∃ t, exec (.limitRelease line) s = .next t ∧
        t.traverse = { s.traverse with limitLo := line = .hi, limitHi := line = .lo } ∧
        t.alarms.entries[srcLimit].state = s.alarms.entries[srcLimit].state ∧
        (∀ e, t.alarms.entries[srcLimit].episode = some e → e.detail = some (.lines (line = .hi) (line = .lo))) ∧
        ChangeReported srcLimit s t ∧ ChangesOnly [.traverse, .alarms, .notices] s.nextEvent t) ∧
    (asserted = true → stays = false →
      ∃ t, exec (.limitRelease line) s = .next t ∧
        t.traverse = { s.traverse with limitLo := false, limitHi := false } ∧
        t.alarms.entries[srcLimit].state =
          (match s.alarms.entries[srcLimit].state with
           | .active => .latched
           | .activeAcked => .clear
           | x => x) ∧
        ChangeReported srcLimit s t ∧ ChangesOnly [.traverse, .alarms, .notices] s.nextEvent t)

/-! ### The head link -/

/-- SYNC (R12, R46, R54, R56): with a period in force the sync joins its entry, as things stand at it, to the ring
of 16; every enabled slot still unsettled gets OVERLAP, TIMING or MISSING with the closing sequence, and one bad
report more; the new period opens with every enabled slot unsettled and no frame in reception. Without a period
there is no sync. -/
def Obligations.SyncOpensPeriod : Prop :=
  ∀ s : State, s.settled →
    (s.headLink.period = none → exec .sync s = .next s.nextEvent) ∧
    (s.headLink.period ≠ none →
      let entry : HistEntry :=
        { seq := s.headLink.nextSeq, position := s.position.counter.toInt
          scan := if s.traverse.state = .traversing then s.traverse.runningScan else none
          shutterOpen := s.traverse.shutter }
      let ring := s.position.history ++ [entry]
      ∃ t, exec .sync s = .next t ∧ t.position.history = ring.drop (ring.length - 16) ∧
        t.headLink.nextSeq = s.headLink.nextSeq + 1 ∧ t.headLink.reception = none ∧
        t.headLink.period = s.headLink.period ∧ t.headLink.slots = s.headLink.slots ∧
        t.headLink.housekeeping = s.headLink.housekeeping ∧ t.headLink.watches = s.headLink.watches ∧
        (∀ k : Fin 4, t.headLink.links[k].unsettled = s.headLink.slots[k].enabled) ∧
        (∀ k : Fin 4, s.headLink.slots[k].enabled = true → s.headLink.links[k].unsettled = true →
          t.headLink.links[k].lastOutcome =
            some
              (if s.headLink.reception = some (.own k) then .overlap
               else if s.headLink.reception = some (.stray k) then .timing
               else .missing, s.headLink.nextSeq - 1) ∧
          t.headLink.links[k].badCount = min 255 (s.headLink.links[k].badCount + 1) ∧
          t.headLink.links[k].assembly = []) ∧
        (∀ k : Fin 4, ¬(s.headLink.slots[k].enabled = true ∧ s.headLink.links[k].unsettled = true) →
          t.headLink.links[k].lastOutcome = s.headLink.links[k].lastOutcome ∧
          t.headLink.links[k].badCount = s.headLink.links[k].badCount ∧
          t.headLink.links[k].assembly = s.headLink.links[k].assembly) ∧
        ChangesOnly
          [.position, .traverse, .headLink, .conversion, .standardize, .profile, .edges, .point, .alarms, .notices]
          s.nextEvent t)

/-- START_BIT (R50, R52, R53): a start bit is taken when no frame is in reception, a period is in force and the
line is still low; in the window of one enabled slot it is that slot's own frame, or discarded if the slot is
settled; outside every enabled window it is charged to the enabled unsettled slot whose window is nearest, of
equally near ones the earlier window, and discarded if there is none. -/
def Obligations.StartBitTaken : Prop :=
  ∀ (time : Nat) (s : State), s.settled →
    let h := s.headLink
    let inside (k : Fin 4) : Prop :=
      h.slots[k].windowStart * 1000 ≤ time ∧ time < (h.slots[k].windowStart + h.slots[k].windowLength) * 1000
    let away (k : Fin 4) : Nat :=
      if time < h.slots[k].windowStart * 1000 then h.slots[k].windowStart * 1000 - time
      else time - (h.slots[k].windowStart + h.slots[k].windowLength) * 1000
    let taken (r : Reception) := s.nextEvent.setHeadLink { h with reception := some r }
    exec (.startBit time false) s = .next s.nextEvent ∧
    (h.reception ≠ none ∨ h.period = none → exec (.startBit time true) s = .next s.nextEvent) ∧
    (h.reception = none → h.period ≠ none →
      (∀ k : Fin 4, h.slots[k].enabled = true → inside k →
        (∀ j : Fin 4, j ≠ k → h.slots[j].enabled = true → ¬inside j) →
        exec (.startBit time true) s = .next (taken (if h.links[k].unsettled then .own k else .discarded))) ∧
      ((∀ k : Fin 4, h.slots[k].enabled = true → ¬inside k) →
        (∀ k : Fin 4, h.slots[k].enabled = true → h.links[k].unsettled = true →
          (∀ j : Fin 4, j ≠ k → h.slots[j].enabled = true → h.links[j].unsettled = true →
            away k < away j ∨ away k = away j ∧ h.slots[k].windowStart < h.slots[j].windowStart) →
          exec (.startBit time true) s = .next (taken (.stray k))) ∧
        ((∀ k : Fin 4, h.slots[k].enabled = true → h.links[k].unsettled = false) →
          exec (.startBit time true) s = .next (taken .discarded))))

/-- FRAME_RECEIVED (R51, R52, R53, R56, R58): the own frame of a slot settles its outcome by its check and its
status field, a stray settles TIMING for the slot it is charged to, a frame to be discarded settles nothing; the
outcome carries the sequence of the running period, the consecutive-bad count follows it, and the slow-channel
assembly is begun, lengthened, completed or dropped by the outcome and the M and D bits. A frame that completes with
none in reception does nothing (log entry 2). -/
def Obligations.FrameSettlesOutcome : Prop :=
  ∀ (bits : BitVec 25) (s : State), s.settled →
    (s.headLink.reception = none → exec (.frameReceived bits) s = .next s.nextEvent) ∧
    (s.headLink.reception = some .discarded →
      exec (.frameReceived bits) s = .next (s.nextEvent.setHeadLink { s.headLink with reception := none })) ∧
    ∀ k : Fin 4, s.headLink.reception = some (.own k) ∨ s.headLink.reception = some (.stray k) →
      let o : FrameOutcome :=
        if s.headLink.reception = some (.stray k) then .timing
        else if crc5 (bits.extractLsb' 5 20) ≠ bits.extractLsb' 0 5 then .check
        else if bits.extractLsb' 21 2 = 0 then .good
        else if bits.extractLsb' 21 2 = 1 then .saturated
        else if bits.extractLsb' 21 2 = 2 then .warming
        else .fault
      let l := s.headLink.links[k]
      let m := bits.getLsbD 24
      let d := bits.getLsbD 23
      ∃ t, exec (.frameReceived bits) s = .next t ∧ t.headLink.reception = none ∧
        t.headLink.links[k] =
          { unsettled := false
            badCount := if o = .good then 0 else min 255 (l.badCount + 1)
            lastOutcome := some (o, s.headLink.nextSeq - 1)
            assembly :=
              if o = .good ∨ o = .saturated then
                if m then [d]
                else if l.assembly = [] then []
                else if l.assembly.length = 15 then []
                else l.assembly ++ [d]
              else [] } ∧
        (∀ j : Fin 4, j ≠ k → t.headLink.links[j] = s.headLink.links[j]) ∧
        t.headLink.nextSeq = s.headLink.nextSeq ∧ t.headLink.period = s.headLink.period ∧
        t.headLink.slots = s.headLink.slots ∧ t.headLink.watches = s.headLink.watches ∧
        (o ≠ .good → t.boxes = s.boxes) ∧
        ChangesOnly
          [.position, .traverse, .headLink, .conversion, .standardize, .boxes, .profile, .edges, .point, .alarms,
            .notices]
          s.nextEvent t

/-- The slow message (R58, R59, R60): the sixteenth bit completes a message; if its check is 15 less the sum of
item and nibbles modulo 16, its entry is present with the value and one update more (the first counting 1), and
otherwise no entry changes; no other entry changes. -/
def Obligations.SlowMessageUpdatesEntry : Prop :=
  ∀ (bits : BitVec 25) (k : Fin 4) (s : State), s.settled → s.headLink.reception = some (.own k) →
    crc5 (bits.extractLsb' 5 20) = bits.extractLsb' 0 5 →
    bits.extractLsb' 21 2 = 0 ∨ bits.extractLsb' 21 2 = 1 → bits.getLsbD 24 = false →
    s.headLink.links[k].assembly.length = 15 →
    let message := s.headLink.links[k].assembly ++ [bits.getLsbD 23]
    let item := bitsValue (message.take 4)
    let value := bitsValue ((message.drop 4).take 8)
    ∃ t, exec (.frameReceived bits) s = .next t ∧
      (bitsValue (message.drop 12) = 15 - (item + value / 16 + value % 16) % 16 →
        t.headLink.entry k item =
            some
              { value := BitVec.ofNat 8 value
                count := match s.headLink.entry k item with
                  | some e => e.count + 1
                  | none => 1 } ∧
          ∀ (j : Fin 4) (i : Nat), i < 16 → j ≠ k ∨ i ≠ item → t.headLink.entry j i = s.headLink.entry j i) ∧
      (bitsValue (message.drop 12) ≠ 15 - (item + value / 16 + value % 16) % 16 →
        t.headLink.housekeeping = s.headLink.housekeeping)

/-! ### Conversion, presence and boxes -/

/-- The calibration curve (R69): flat below its first breakpoint and above its last, and between two neighbours
the rounded linear interpolation; so it passes through every breakpoint. -/
def Obligations.CurveInterpolates : Prop :=
  ∀ (curve : Curve) (q : Nat), risingX curve = true →
    (∀ x y rest, curve = (x, y) :: rest → q ≤ x → curveValue curve q = y) ∧
    (∀ x y front, curve = front ++ [(x, y)] → x ≤ q → curveValue curve q = y) ∧
    (∀ x0 y0 x1 y1 front back, curve = front ++ (x0, y0) :: (x1, y1) :: back → x0 ≤ q → q ≤ x1 →
      curveValue curve q = y0 + roundInt ((q - x0 : Nat) * (y1 - y0)) (x1 - x0)) ∧
    (∀ x y, (x, y) ∈ curve → curveValue curve x = y)

/-- The presence of a weight reading (R67, R68, R77, R78, R79): a GOOD frame of slot 0 with an accepted standardize,
attributed outside every presence-ignore zone, is normalized and classified against the two thresholds, the band
between them keeping the hysteresis state; with no accepted standardize, with no history entry, or inside an enabled
presence-ignore zone it is UNKNOWN, and so is every bad frame, a stray, and an outcome that the closing sync settles.
Each becomes the latest weight classification, and UNKNOWN leaves the hysteresis state. A frame that ends a standardize
cycle may be classified by the values accepted before it or by those accepted at it (R75, log entry 6). -/
def Obligations.WeightReadingClassified : Prop :=
  ∀ s : State, s.settled →
    let unknown : Conversion := { s.conversion with latest := .unknown }
    (∀ bits : BitVec 25, s.headLink.reception = some (.own 0) → crc5 (bits.extractLsb' 5 20) = bits.extractLsb' 0 5 →
      bits.extractLsb' 21 2 = 0 →
      let v := (bits.extractLsb' 5 16).toNat
      let classified (accepted : Option StdAccepted) : Conversion :=
        match accepted, s.attributed 0 (s.headLink.nextSeq - 1) with
        | some a, some entry =>
          let q := min 65535 ((if a.dark < v then v - a.dark else 0) * 32768 / (a.ref - a.dark))
          let present : Bool :=
            if q ≤ s.conversion.presenceThreshold then true
            else if q < s.conversion.absenceThreshold then s.conversion.hysteresisPresent
            else false
          if s.presenceIgnored entry.position then unknown
          else { s.conversion with latest := if present then .present else .absent, hysteresisPresent := present }
        | _, _ => unknown
      ∃ t, exec (.frameReceived bits) s = .next t ∧
        (s.endsCollection 0 v = false → t.conversion = classified s.standardize.records[(0 : Fin 4)].accepted) ∧
        (t.conversion = classified s.standardize.records[(0 : Fin 4)].accepted ∨
          t.conversion = classified t.standardize.records[(0 : Fin 4)].accepted)) ∧
    (∀ bits : BitVec 25,
      s.headLink.reception = some (.own 0) ∧
            (crc5 (bits.extractLsb' 5 20) ≠ bits.extractLsb' 0 5 ∨ bits.extractLsb' 21 2 ≠ 0) ∨
          s.headLink.reception = some (.stray 0) →
      ∃ t, exec (.frameReceived bits) s = .next t ∧ t.conversion = unknown) ∧
    (s.headLink.period ≠ none → s.headLink.slots[(0 : Fin 4)].enabled = true →
      s.headLink.links[(0 : Fin 4)].unsettled = true →
      ∃ t, exec .sync s = .next t ∧ t.conversion = unknown)

/-- A GOOD frame of a slot that ends no standardize cycle is binned by the conditions of R111 (R108, R109, R111,
R112): where they give a box, the box and slot channel gain the converted value and one count, and no other
accumulator changes; where one fails, none changes. The latest weight classification is the one that stands when the
record reaches the boxes: for slot 0 its own (R79), for the others the one before. The box is that of the fixed width
in FIXED mode and of the share of the way between the edges in EDGE mode (R101, R102). -/
def Obligations.ReadingBinned : Prop :=
  (∀ (bits : BitVec 25) (k : Fin 4) (s : State), s.settled → s.headLink.reception = some (.own k) →
      crc5 (bits.extractLsb' 5 20) = bits.extractLsb' 0 5 → bits.extractLsb' 21 2 = 0 →
      let v := (bits.extractLsb' 5 16).toNat
      s.endsCollection k v = false →
      ∃ t, exec (.frameReceived bits) s = .next t ∧ (k ≠ 0 → t.conversion = s.conversion) ∧
        t.boxes = { s.boxes with accumulators := t.boxes.accumulators } ∧
        (∀ a curve entry c b, s.standardize.records[k].accepted = some a → s.conversion.curves[k] = some curve →
          s.attributed k (s.headLink.nextSeq - 1) = some entry → s.boxes.context = some c →
          entry.scan ≠ none → entry.scan = s.traverse.runningScan → entry.shutterOpen = true →
          t.conversion.latest = .present → s.excluded k entry.position = false →
          boxOf c.layout c.map entry.position = some b → (s.accumulator k b).count < 65535 →
          ∀ (j : Fin 4) (i : Nat),
            t.accumulator j i =
              if j = k ∧ i = b then
                { sum := (s.accumulator k b).sum + curveValue curve (normalize v a.dark a.ref)
                  count := (s.accumulator k b).count + 1 }
              else s.accumulator j i) ∧
        (s.standardize.records[k].accepted = none ∨ s.conversion.curves[k] = none ∨
            s.attributed k (s.headLink.nextSeq - 1) = none ∨ s.boxes.context = none ∨
            t.conversion.latest ≠ .present ∨ s.traverse.runningScan = none ∨
            (∃ entry c, s.attributed k (s.headLink.nextSeq - 1) = some entry ∧ s.boxes.context = some c ∧
              (entry.scan ≠ s.traverse.runningScan ∨ entry.shutterOpen = false ∨
                s.excluded k entry.position = true ∨
                ∀ b, boxOf c.layout c.map entry.position = some b → 65535 ≤ (s.accumulator k b).count)) →
          t.boxes = s.boxes)) ∧
  (∀ (l : Layout) (p : Int) (b : Nat), 0 < l.width →
    (boxOf l .fixed p = some b ↔
      (l.origin + b * l.width : Int) ≤ p ∧ p ≤ (l.origin + (b + 1) * l.width - 1 : Int) ∧ b < l.boxes)) ∧
  (∀ (l : Layout) (low high p : Int) (b : Nat), low < high →
    (boxOf l (.edges low high) p = some b ↔
      low ≤ p ∧ p ≤ high ∧ b = min (l.boxes - 1) ((p - low) * l.boxes / (high - low)).toNat)) ∧
  ∀ (l : Layout) (p : Int), boxOf l .unmapped p = none

/-! ### Collections, filters, sheet and dwell -/

/-- A GOOD value handed to the running cycle (R85, R86): in DARK it joins the dark collection of a slot that is in
DARK, in REF the reference collection of a slot that is in REF; the slot's last value makes it REF_WAIT or DONE. When
the last slot leaves DARK the shutter opens and REF_SETTLE follows, or REF at once with no settling time; when the last
leaves REF, EVALUATE follows and the timeout is stopped. Every other value is ignored. FRAME_RECEIVED in STANDARDIZING
hands the running cycle its GOOD value, and a bad frame or a stray gives it none, as long as no alarm of the same frame
claims the drive; the value that ends the last collection brings the evaluation (R88 to R90; an age as log entry 28 has
it), with the watches as they stand before or after the frame's own slow-channel bit (log entry 7). -/
def Obligations.CycleCollectsValue : Prop :=
  (∀ (k : Fin 4) (v : Nat) (s : State) (c : Cycle) (x : Collection), s.standardize.cycle = some c →
      c.slots[k] = some x →
      let others (st : CollectState) : Prop := ∃ j : Fin 4, j ≠ k ∧ ∃ y, c.slots[j] = some y ∧ y.state = st
      let cycleIs (c' : Cycle) : State := s.setStandardize { s.standardize with cycle := some c' }
      let opened : State :=
        match s.traverse.state with
        | .standardizing _ => s.setTraverse { s.traverse with shutter := true }
        | _ => s
      let put (y : Collection) : Vector (Option Collection) 4 := c.slots.set k (some y)
      let dark : Collection := { x with darkSum := x.darkSum + v, darkCount := x.darkCount + 1 }
      let ref : Collection := { x with refSum := x.refSum + v, refCount := x.refCount + 1 }
      (c.phase = .dark → x.state = .dark → x.darkCount + 1 < c.settings.nDark →
        collectReport k v s = cycleIs { c with slots := put dark }) ∧
      (c.phase = .dark → x.state = .dark → c.settings.nDark ≤ x.darkCount + 1 →
        (others .dark → collectReport k v s = cycleIs { c with slots := put { dark with state := .refWait } }) ∧
        (¬others .dark → c.settings.refSettle ≠ 0 →
          collectReport k v s =
            opened.setStandardize
              { s.standardize with
                cycle := some
                  { c with
                    slots := put { dark with state := .refWait }, phase := .refSettle
                    phaseTimer := some c.settings.refSettle } }) ∧
        (¬others .dark → c.settings.refSettle = 0 →
          collectReport k v s =
            opened.setStandardize
              { s.standardize with
                cycle := some
                  { c with
                    slots := (put { dark with state := .refWait }).map fun y =>
                      y.map fun z => if z.state = .refWait then { z with state := .ref } else z
                    phase := .ref, phaseTimer := none } })) ∧
      (c.phase = .ref → x.state = .ref → x.refCount + 1 < c.settings.nRef →
        collectReport k v s = cycleIs { c with slots := put ref }) ∧
      (c.phase = .ref → x.state = .ref → c.settings.nRef ≤ x.refCount + 1 →
        (others .ref → collectReport k v s = cycleIs { c with slots := put { ref with state := .done } }) ∧
        (¬others .ref →
          collectReport k v s =
            cycleIs
              { c with
                slots := put { ref with state := .done }, phase := .evaluate, phaseTimer := none
                timeoutTimer := none })) ∧
      (c.phase = .darkSettle ∨ c.phase = .refSettle ∨ c.phase = .dark ∧ x.state ≠ .dark ∧ others .dark ∨
          c.phase = .ref ∧ x.state ≠ .ref ∧ others .ref →
        collectReport k v s = s)) ∧
  (∀ (k : Fin 4) (v : Nat) (s : State) (c : Cycle), s.standardize.cycle = some c → c.slots[k] = none →
    (∃ (j : Fin 4) (y : Collection), c.slots[j] = some y ∧ (c.phase = .dark → y.state = .dark) ∧
      (c.phase = .ref → y.state = .ref)) →
    collectReport k v s = s) ∧
  ∀ (bits : BitVec 25) (k : Fin 4) (c : Cycle) (d : CycleDest) (s : State), s.settled →
    s.standardize.cycle = some c → s.traverse.state = .standardizing d →
    let v := (bits.extractLsb' 5 16).toNat
    let good : Prop :=
      s.headLink.reception = some (.own k) ∧ crc5 (bits.extractLsb' 5 20) = bits.extractLsb' 0 5 ∧
        bits.extractLsb' 21 2 = 0
    let unclaimed : Prop :=
      ∀ i ∈ [srcHole, srcSensorFault, srcHousekeeping],
        s.alarms.entries[i].state ≠ .clear ∨ s.alarms.sets[i].park = false ∧ s.alarms.sets[i].halt = false
    (good → s.endsCollection k v = false → unclaimed →
      ∃ t, exec (.frameReceived bits) s = .next t ∧ t.standardize = (collectReport k v s).standardize ∧
        t.traverse = (collectReport k v s).traverse) ∧
    (¬good → s.headLink.reception = some (.own k) ∨ s.headLink.reception = some (.stray k) → unclaimed →
      ∃ t, exec (.frameReceived bits) s = .next t ∧ t.standardize = s.standardize ∧ t.traverse = s.traverse) ∧
    (good → s.endsCollection k v = true →
      ∃ t e h, exec (.frameReceived bits) s = .next t ∧ (collectReport k v s).standardize.cycle = some e ∧
        (h = s.headLink ∨ h = t.headLink) ∧ CycleEvaluated e h.slotTripped s t)

/-- One channel at a COMPLETE close (R121, R122, R124, R125, R129): a channel with too few valid boxes, or none, is
thin and its filter stands; otherwise its age counts on, its range and variance are those of its scan values, and every
valid box moves toward its deviation from the scan average by a share of 2 to the power of the lesser of k and the age,
so that at age 0 it becomes the deviation, while a missing box is held and its stale count grows. A box with no value is
MISSING below the stale limit and VOID at it. The MOTION_TICK that closes a scan closes every channel of its set so
(R120, R135, R139): a slot channel by the rounded means of the boxes with min_count readings or more (R121), moisture by
the clamped share of water in weight where the weight is positive (R123); into the record, the bank and the filters
(which a layout or curve staged for a scan of the same tick may reset), with PROFILE_THIN raised for the thin ones. -/
def Obligations.ChannelClosed : Prop :=
  (∀ (ch : Fin 5) (f : ChannelFilter) (t : FilterSettings) (values : List (Option Int)),
      let r := closeChannel ch f t values
      let valid := values.filterMap id
      let average := roundInt valid.sum valid.length
      r.part.channel = ch ∧ r.part.validBoxes = valid.length ∧ r.part.average = (if valid = [] then none else some average) ∧
      (r.part.thin = true ↔ valid.length < t.minValid ∨ valid = []) ∧
      (r.part.thin = true → r.filter = f ∧ r.part.rangeVariance = none) ∧
      (r.part.thin = false → r.filter.age = min 255 (f.age + 1)) ∧
      (r.part.thin = false →
        ∃ high low, high ∈ valid ∧ low ∈ valid ∧ (∀ x ∈ valid, low ≤ x ∧ x ≤ high) ∧
          r.part.rangeVariance =
            some
              ((high - low).toNat, (valid.map fun x => (x - average).natAbs ^ 2).sum / valid.length)) ∧
      r.bank.thin = r.part.thin ∧ r.bank.validBoxes = r.part.validBoxes ∧ r.bank.average = r.part.average ∧
      r.bank.age = r.filter.age ∧
      r.bank.boxes.length = values.length ∧
      ∀ (b : Nat) (value : Option Int), values[b]? = some value →
        (r.part.thin = false → ∀ v, value = some v →
          Table.get 0 r.filter.values b =
            Table.get 0 f.values b +
              roundInt (v - average - Table.get 0 f.values b) (2 ^ min t.k f.age) ∧
          (f.age = 0 → Table.get 0 r.filter.values b = v - average) ∧ Table.get 0 r.filter.stale b = 0) ∧
        (r.part.thin = false → value = none →
          Table.get 0 r.filter.values b = Table.get 0 f.values b ∧
          Table.get 0 r.filter.stale b = min 255 (Table.get 0 f.stale b + 1)) ∧
        r.bank.boxes[b]? =
          some
            { filtered := Table.get 0 r.filter.values b, scanValue := value
              state :=
                if value ≠ none then .valid
                else if Table.get 0 r.filter.stale b < t.staleLimit then .missing
                else .void }) ∧
  ∀ (homeSw : Bool) (c : ScanContext) (s : State), s.settled → s.closesAtTick → s.profile.context = some c →
    let slot (k : Fin 4) : List (Option Int) :=
      (List.range c.layout.boxes).map fun b =>
        if s.profile.settings[k.castSucc].minCount ≤ (s.accumulator k b).count then
          some (roundInt (s.accumulator k b).sum (s.accumulator k b).count)
        else none
    let values (ch : Fin 5) : List (Option Int) :=
      if h : ch.val < 4 then slot ⟨ch.val, h⟩
      else
        match c.waterSlot with
        | some w => List.zipWith moistureShare (slot w) (slot 0)
        | none => List.replicate c.layout.boxes none
    let closed (ch : Fin 5) : ClosedChannel :=
      closeChannel ch s.profile.filters[ch] s.profile.settings[ch] (values ch)
    ∃ t r w bank, exec (.motionTick homeSw) s = .next t ∧ t.profile.history.getLast? = some r ∧
      t.profile.lastWritten = w ∧ t.profile.banks[w] = some bank ∧ bank.layout = c.layout ∧
      bank.generation = c.generation ∧
      r.parts =
        ((List.finRange 5).filter fun (ch : Fin 5) => c.channels.getLsbD ch).map (fun ch => (closed ch).part) ∧
      (∀ ch : Fin 5,
        bank.channels[ch] = (if c.channels.getLsbD ch = true then some (closed ch).bank else none) ∧
        (t.traverse.state ≠ .traversing →
          t.profile.filters[ch] =
            if c.channels.getLsbD ch = true then (closed ch).filter else s.profile.filters[ch])) ∧
      (let thin (ch : Fin 5) : Prop := c.channels.getLsbD ch = true ∧ (closed ch).part.thin = true
       ((∃ ch, thin ch) →
         ∃ set, Occurred srcProfileThin (some (.set set)) false s t ∧
           ∀ ch : Fin 5, set.getLsbD ch = true ↔ thin ch) ∧
       ((∀ ch, ¬thin ch) → t.alarms.entries[srcProfileThin] = s.alarms.entries[srcProfileThin]))

/-- A weight reading taken by the monitor (R144, R147, R150, R151, R152, R153, R155): one with no history entry, taken
under a closed shutter or of unknown presence, changes nothing. A PRESENT one lengthens the present run and ends the
absent run, raising HOLE for a qualified run of hole_run readings or more and fewer than break_run. An ABSENT one
lengthens the absent run, which is qualified while it lies inside (a REPORTED run that leaves the interior included: log
entry 45); a qualified run that reaches break_run raises SHEET_LOST, is reported once, and starts the hold-off unless it
waits for the break line. A reading of the traverse then works the edge search, and a PRESENT one near the turn point
drags it along, no farther than the soft limits, and marks the scan TURN_EXTENDED (R26). A frame charged to slot 0
brings the monitor its reading so, with the presence it was given (R77, R78, R81), whatever its alarms then claim. -/
def Obligations.SheetRunsCounted : Prop :=
  (∀ (presence : Presence) (e : HistEntry) (s : State),
    let m := s.edges
    let ofTraverse : Prop :=
      s.traverse.state = .traversing ∧ e.scan ≠ none ∧ e.scan = s.traverse.runningScan
    let searched (t : State) (c : SearchContext) : SearchContext :=
      if ofTraverse then
        { c with
          airSeen := c.airSeen || decide (m.settings.edgeRun ≤ t.edges.absentRun)
          sheetSeen := c.sheetSeen || decide (m.settings.edgeRun ≤ t.edges.presentRun)
          leading :=
            if c.leading = none ∧ c.airSeen = true ∧ m.settings.edgeRun ≤ t.edges.presentRun then
              t.edges.presentFirst
            else c.leading
          lastPresent := if presence = .present then some e.position else c.lastPresent
          lastReading := some presence }
      else c
    monitorReading presence none s = s ∧
    (presence = .unknown ∨ e.shutterOpen = false → monitorReading presence (some e) s = s) ∧
    (presence = .present → e.shutterOpen = true →
      let t := monitorReading .present (some e) s
      let hole : Prop := m.qualification = .qualified ∧ m.settings.holeRun ≤ m.absentRun ∧
        m.absentRun < m.settings.breakRun
      let f := s.position.frame
      let asked (q : Int) : Int :=
        match s.traverse.scanDir with
        | .fwd => if q - f.overtravel < e.position then s.frame.clamp (e.position + f.overtravel) else q
        | .rev => if e.position < q + f.overtravel then s.frame.clamp (e.position - f.overtravel) else q
      let farther (q : Int) : Prop :=
        match s.traverse.scanDir with
        | .fwd => q < asked q
        | .rev => asked q < q
      let extends_ : Prop := ofTraverse ∧ ∃ q, s.traverse.turnPoint = some q ∧ farther q
      t.edges.presentRun = min 65535 (m.presentRun + 1) ∧
      t.edges.presentFirst = (if m.presentRun = 0 then some e.position else m.presentFirst) ∧
      t.edges.absentRun = 0 ∧ t.edges.absentFirst = none ∧ t.edges.qualification = .none ∧
      t.edges.holdoff = m.holdoff ∧
      (hole → Occurred srcHole (some (.hole (m.absentFirst.getD 0) m.absentRun)) false s t) ∧
      (¬hole → t.alarms = s.alarms) ∧
      t.edges.context =
        m.context.map (fun c => searched t (if hole then { c with holes := min 65535 (c.holes + 1) } else c)) ∧
      (extends_ →
        t.traverse = { s.traverse with turnPoint := s.traverse.turnPoint.map asked } ∧
        t.profile =
          { s.profile with context := s.profile.context.map fun c => { c with turnExtended := true } }) ∧
      (¬extends_ → t.traverse = s.traverse ∧ t.profile = s.profile)) ∧
    (presence = .absent → e.shutterOpen = true →
      let t := monitorReading .absent (some e) s
      let q : Qualification :=
        if s.insideInterior e = false then .disqualified else if m.absentRun = 0 then .qualified else m.qualification
      let run := min 65535 (m.absentRun + 1)
      let first := if m.absentRun = 0 then some e.position else m.absentFirst
      let lost : Prop := q = .qualified ∧ m.settings.breakRun ≤ run
      t.edges.absentRun = run ∧ t.edges.absentFirst = first ∧ t.edges.presentRun = 0 ∧
      t.edges.presentFirst = none ∧ t.edges.context = m.context.map (searched t) ∧
      t.traverse = s.traverse ∧ t.profile = s.profile ∧
      (lost →
        Occurred srcSheetLost (some (.position (first.getD 0))) false s t ∧ t.edges.qualification = .reported ∧
        t.edges.holdoff =
          (if m.holdoff = .wait then .wait else .running (1000 * m.settings.breakHoldoff))) ∧
      (¬lost → t.alarms = s.alarms ∧ t.edges.qualification = q ∧ t.edges.holdoff = m.holdoff))) ∧
  ∀ (bits : BitVec 25) (s : State), s.settled →
    s.headLink.reception = some (.own 0) ∨ s.headLink.reception = some (.stray 0) →
    ∃ t, exec (.frameReceived bits) s = .next t ∧
      let m := monitorReading t.conversion.latest (s.attributed 0 (s.headLink.nextSeq - 1)) s
      t.edges = { m.edges with context := t.edges.context, holdoff := t.edges.holdoff } ∧
      t.alarms.entries[srcHole] = m.alarms.entries[srcHole] ∧
      t.alarms.entries[srcSheetLost] = m.alarms.entries[srcSheetLost] ∧
      ChangeReported srcHole s t ∧ ChangeReported srcSheetLost s t ∧
      (t.traverse.state = s.traverse.state →
        t.edges.context = m.edges.context ∧ t.edges.holdoff = m.edges.holdoff) ∧
      (t.traverse.state.breakPark = true → t.edges.holdoff = m.edges.holdoff) ∧
      (t.traverse.state = .traversing →
        t.traverse = m.traverse ∧ (s.standardize.cycle = none → t.profile = m.profile))

/-- SYNC in DWELLING (R163): with every outcome of the ending period settled, the open dwell counts the sync, and the
sync that fills the block closes it into the ring of 64 at the position of the sync, with the means of its channels,
that of channel 4 the clamped share of water in weight (in every block of a dwell with the WATER slot: log entry 33),
and opens the next block, empty, with the next number and the pending length, if there is one. A frame in DWELLING
(R162): a GOOD one adds its converted value and one count to its slot's channel of the open dwell when its entry
records the shutter open and, for slots 1 to 3, the latest weight classification is PRESENT, one of slot 0 that is
PRESENT counting as such too; a reading without a converted value or failing a condition adds nothing, and neither does
a bad frame or a stray. -/
def Obligations.DwellSyncCounted : Prop :=
  (∀ (d : OpenDwell) (s : State), s.settled → s.headLink.period ≠ none → s.point.dwell = .opened d →
      (∀ k : Fin 4, s.headLink.slots[k].enabled = true → s.headLink.links[k].unsettled = false) →
      ∃ t, exec .sync s = .next t ∧ ChangesOnly [.position, .headLink, .point] s.nextEvent t ∧
        (d.syncs + 1 < d.blockLength →
          t.point = { s.point with dwell := .opened { d with syncs := d.syncs + 1 } }) ∧
        (d.blockLength ≤ d.syncs + 1 →
          ∃ block : PointBlock,
            t.point.ring = (s.point.ring ++ [block]).drop (s.point.ring.length + 1 - 64) ∧
            t.point.dwell =
              .opened
                { d with
                  block := nextNumber d.block, syncs := 0, sums := Vector.replicate 4 Accumulator.zero
                  presentCount := 0, pendingLength := none
                  blockLength := match d.pendingLength with
                    | some n => n
                    | none => d.blockLength } ∧
            block.block = d.block ∧ block.position = s.position.counter.toInt ∧
            block.presentCount = d.presentCount ∧
            let mean (k : Fin 4) : Option Int :=
              if d.sums[k].count = 0 then none else some (roundInt d.sums[k].sum d.sums[k].count)
            (∀ k : Fin 4, d.channels.getLsbD k = true →
              { channel := k.val, count := some d.sums[k].count, mean := mean k } ∈ block.channels) ∧
            ∀ w, d.waterSlot = some w →
              { channel := 4, count := none, mean := moistureShare (mean w) (mean 0) } ∈ block.channels)) ∧
  ∀ (bits : BitVec 25) (k : Fin 4) (d : OpenDwell) (s : State), s.settled → s.point.dwell = .opened d →
    let v := (bits.extractLsb' 5 16).toNat
    let good : Prop :=
      s.headLink.reception = some (.own k) ∧ crc5 (bits.extractLsb' 5 20) = bits.extractLsb' 0 5 ∧
        bits.extractLsb' 21 2 = 0
    (good → s.endsCollection k v = false →
      ∃ t, exec (.frameReceived bits) s = .next t ∧
        (t.traverse.state = .dwelling →
          (∀ a curve entry, s.standardize.records[k].accepted = some a → s.conversion.curves[k] = some curve →
            s.attributed k (s.headLink.nextSeq - 1) = some entry → entry.shutterOpen = true →
            k = 0 ∨ s.conversion.latest = .present →
            t.point =
              { s.point with
                dwell := .opened
                  { d with
                    sums := d.sums.set k
                      { sum := d.sums[k].sum + curveValue curve (normalize v a.dark a.ref)
                        count := d.sums[k].count + 1 }
                    presentCount :=
                      if k = 0 ∧ t.conversion.latest = .present then d.presentCount + 1 else d.presentCount } }) ∧
          (s.standardize.records[k].accepted = none ∨ s.conversion.curves[k] = none ∨
              (∀ entry, s.attributed k (s.headLink.nextSeq - 1) = some entry → entry.shutterOpen = false) ∨
              k ≠ 0 ∧ s.conversion.latest ≠ .present →
            t.point = s.point))) ∧
    (¬good → s.headLink.reception = some (.own k) ∨ s.headLink.reception = some (.stray k) →
      ∃ t, exec (.frameReceived bits) s = .next t ∧ (t.traverse.state = .dwelling → t.point = s.point))

/-! ### Standardize, uptime, break line, alarm line -/

/-- STD_PHASE_TIMER_EXPIRY and STD_TIMEOUT (R85, R87 to R90, R96): DARK_SETTLE goes to DARK, REF_SETTLE to REF with
every slot in REF_WAIT collecting; at the timeout every slot not DONE is NO_DATA and the cycle is evaluated: its
records written by R88 and R89, the schedule counter and the pending request cleared, STD_REJECTED raised with exactly
the slots not accepted, by WATCH, SPAN, DRIFT or NO_DATA, or not raised when all are, the expired slots evaluated anew
(an age as log entry 28 has it), and STANDARDIZING left for the move its destination names, unless an alarm claims the
drive (R30). Without the timer nothing happens (log entry 2). -/
def Obligations.CycleTimersAdvance : Prop :=
  ∀ s : State, s.settled →
    (s.standardize.cycle = none →
      exec .stdPhaseTimerExpiry s = .next s.nextEvent ∧ exec .stdTimeout s = .next s.nextEvent) ∧
    ∀ c, s.standardize.cycle = some c →
      (c.phaseTimer = none → exec .stdPhaseTimerExpiry s = .next s.nextEvent) ∧
      (c.phaseTimer ≠ none → c.phase = .darkSettle →
        exec .stdPhaseTimerExpiry s =
          .next
            (s.nextEvent.setStandardize
              { s.standardize with cycle := some { c with phase := .dark, phaseTimer := none } })) ∧
      (c.phaseTimer ≠ none → c.phase = .refSettle →
        ∃ t d, exec .stdPhaseTimerExpiry s = .next t ∧ t.standardize = { s.standardize with cycle := some d } ∧
          d = { c with phase := .ref, phaseTimer := none, slots := d.slots } ∧
          (∀ k : Fin 4, d.slots[k] =
            (c.slots[k]).map fun x => if x.state = .refWait then { x with state := .ref } else x) ∧
          ChangesOnly [.standardize] s.nextEvent t) ∧
      (c.timeoutTimer = none → exec .stdTimeout s = .next s.nextEvent) ∧
      (c.timeoutTimer ≠ none →
        ∃ t, exec .stdTimeout s = .next t ∧ CycleEvaluated c s.headLink.slotTripped s t ∧
          (∀ d, s.traverse.state = .standardizing d →
            (∀ i ∈ [srcStdRejected, srcStdExpired],
              s.alarms.sets[i].park = false ∧ s.alarms.sets[i].halt = false) →
            t.traverse.holder = s.traverse.holder ∧
            t.traverse.state =
              .positioning
                (match d with
                 | .ret =>
                   { purpose := .toTurn s.traverse.scanDir.flip true
                     target := s.frame.clamp (s.traverse.turnPoint.getD 0), phase := .run }
                 | .turnLow =>
                   { purpose := .toTurn .fwd false, target := s.frame.clamp (s.turnPointFor .rev), phase := .run }
                 | .park =>
                   { purpose := .toPark .host, target := s.frame.clamp s.position.frame.parkPosition
                     phase := .run })) ∧
          ChangesOnly motionParts s.nextEvent t)

/-- UPTIME_SECOND (R191, R96, R97, R169): the uptime counts a second, wrapping, so that an age is a difference of
two uptimes modulo 2^32 (log entry 28); in TRAVERSING, REVERSING, DWELLING and STANDARDIZING the set of expired slots is
evaluated anew, and its condition started or ended with it; a set that changes while the condition stands is its new
detail, count and last occurrence standing. A condition that starts in TRAVERSING marks the running scan STD_EXPIRED,
which goes on marked or, when the reaction set claims the drive, is abandoned with the mark in its record; otherwise no
scan is marked. The entry and the traverse are told in notices as they change (R17, R172). In other states nothing else
changes. -/
def Obligations.UptimeSecondCounts : Prop :=
  ∀ s : State, s.settled →
    let u := s.nextEvent.setLink { s.nextEvent.link with uptime := s.link.uptime + 1 }
    (s.traverse.state.measuring = false → exec .uptimeSecond s = .next u) ∧
    (s.traverse.state.measuring = true →
      ∃ t, exec .uptimeSecond s = .next t ∧ t.link.uptime = s.link.uptime + 1 ∧
        (∀ k : Fin 4, t.standardize.expiredSlots.getLsbD k =
          (s.headLink.slots[k].enabled &&
            match s.standardize.records[k].accepted with
            | none => true
            | some a => s.standardize.settings.maxAge < (s.link.uptime + 1 - a.acceptedAt).toNat)) ∧
        (let old := s.standardize.expiredSlots
         let new := t.standardize.expiredSlots
         let entry := s.alarms.entries[srcStdExpired]
         let starts : Prop := old = 0 ∧ new ≠ 0
         let claims : Prop :=
          starts ∧ entry.state = .clear ∧
            (s.alarms.sets[srcStdExpired].park = true ∨ s.alarms.sets[srcStdExpired].halt = true)
         (starts → entry.state = .clear ∨ entry.state = .latched →
          t.alarms.entries[srcStdExpired].state = .active ∧
          Occurred srcStdExpired (some (.set new)) false u t) ∧
         (old ≠ 0 → new = 0 →
          t.alarms.entries[srcStdExpired].state =
            (match entry.state with
             | .active => .latched
             | .activeAcked => .clear
             | x => x)) ∧
         (old ≠ 0 → new ≠ 0 → old ≠ new → entry.state = .active ∨ entry.state = .activeAcked →
          t.alarms.entries[srcStdExpired] =
            { entry with episode := entry.episode.map fun e => { e with detail := some (.set new) } } ∧
          (entry.episode ≠ none → Reported srcStdExpired s t)) ∧
         (old = new → t.alarms = s.alarms) ∧
         (¬claims → t.traverse = s.traverse) ∧
         (∀ c, starts → s.traverse.state = .traversing → s.profile.context = some c →
          (¬claims → t.profile = { s.profile with context := some { c with stdExpired := true } }) ∧
          (claims →
            ∃ r, t.profile.history.getLast? = some r ∧ r.scan = c.scan ∧ r.stdExpired = true ∧
              r.abandoned = some .reaction ∧ t.profile.context = none)) ∧
         (¬(starts ∧ s.traverse.state = .traversing) → t.profile = s.profile)) ∧
        ChangeReported srcStdExpired s t ∧ MotionNoticed s t ∧ ChangesOnly motionParts u t)

/-- BREAK_IN_CHANGE and BREAK_DEBOUNCE_EXPIRY (R154, R155, R33, R169): a level away from the accepted one starts the
debounce, a return to it stops it; at the expiry the level is accepted, and an asserted line starts SHEET_BREAK with
the hold-off in WAIT, parking a running scan with cause BREAK under the default set when the entry was CLEAR (its edges
settled as log entries 43 and 48 have it), claiming nothing when it was LATCHED and leaving it as it was when it stood
ACTIVE; a released one ends it and starts a hold-off that waits. A change to the same level and an expiry with no
debounce do nothing (log entry 2). The entry and the traverse are told in notices as they change (R17, R172). -/
def Obligations.BreakLineDebounced : Prop :=
  ∀ s : State, s.settled →
    (∀ level : Bool, level = s.edges.breakIn → exec (.breakInChange level) s = .next s.nextEvent) ∧
    (∀ level : Bool, level ≠ s.edges.breakIn →
      exec (.breakInChange level) s =
        .next
          (s.nextEvent.setEdges
            { s.edges with
              breakIn := level
              debounce :=
                if level = s.edges.accepted then none
                else if s.edges.debounce = none then some s.edges.settings.breakDebounce
                else s.edges.debounce })) ∧
    (s.edges.debounce = none → exec .breakDebounceExpiry s = .next s.nextEvent) ∧
    (s.edges.debounce ≠ none → s.edges.breakIn = true → s.alarms.entries[srcSheetBreak].state = .clear →
      ∃ t, exec .breakDebounceExpiry s = .next t ∧ t.edges.accepted = true ∧ t.edges.debounce = none ∧
        t.edges.holdoff = .wait ∧ t.alarms.entries[srcSheetBreak].state = .active ∧
        Occurred srcSheetBreak none false s t ∧ HaltedBy srcSheetBreak s t ∧
        (s.traverse.state = .traversing → s.alarms.sets[srcSheetBreak].halt = false →
          s.alarms.sets[srcSheetBreak].park = true →
          t.traverse.state =
              .positioning
                { purpose := .toPark .brk, target := s.frame.clamp s.position.frame.parkPosition, phase := .run } ∧
            t.traverse.holder = some .park ∧ ScanAbandoned .brk s t) ∧
        ChangesOnly motionParts s.nextEvent t) ∧
    (s.edges.debounce ≠ none → s.edges.breakIn = true → s.alarms.entries[srcSheetBreak].state ≠ .clear →
      ∃ t, exec .breakDebounceExpiry s = .next t ∧
        t.edges = { s.edges with accepted := true, debounce := none, holdoff := .wait } ∧
        (s.alarms.entries[srcSheetBreak].state = .latched →
          t.alarms.entries[srcSheetBreak].state = .active ∧ Occurred srcSheetBreak none false s t) ∧
        (s.alarms.entries[srcSheetBreak].state ≠ .latched → ChangesOnly [.edges] s.nextEvent t) ∧
        ChangesOnly [.edges, .alarms, .notices] s.nextEvent t) ∧
    (s.edges.debounce ≠ none → s.edges.breakIn = false →
      ∃ t, exec .breakDebounceExpiry s = .next t ∧
        t.edges =
          { s.edges with
            accepted := false, debounce := none
            holdoff :=
              if s.edges.holdoff = .wait then .running (1000 * s.edges.settings.breakHoldoff)
              else s.edges.holdoff } ∧
        t.alarms.entries[srcSheetBreak].state =
          (match s.alarms.entries[srcSheetBreak].state with
           | .active => .latched
           | .activeAcked => .clear
           | x => x) ∧
        ChangeReported srcSheetBreak s t ∧ ChangesOnly [.edges, .alarms, .notices] s.nextEvent t)

/-- HOLDOFF_EXPIRY (R155, R156, R43, R127): in PARKED with cause BREAK the resume step is made: NOT_TRIED with
autoresume off or the attempts spent; else the two break sources are acknowledged if LATCHED, and the resume order
is taken, with one attempt more and every filter age 0, when the machine is ready and nothing else blocks, and
refused otherwise; where it is not taken, the traverse stays as it is. On the way to that park the hold-off becomes
DUE; elsewhere, and at the end of the step, it is IDLE. An expiry of a hold-off that does not run does nothing (log
entry 2). -/
def Obligations.HoldoffResumes : Prop :=
  ∀ s : State, s.settled →
    ((∀ n, s.edges.holdoff ≠ .running n) → exec .holdoffExpiry s = .next s.nextEvent) ∧
    ∀ n, s.edges.holdoff = .running n →
      (s.traverse.state.breakPark = false →
        exec .holdoffExpiry s = .next (s.nextEvent.setEdges { s.edges with holdoff := .idle })) ∧
      (∀ p phase, s.traverse.state = .positioning ⟨.toPark .brk, p, phase⟩ →
        exec .holdoffExpiry s = .next (s.nextEvent.setEdges { s.edges with holdoff := .due })) ∧
      (s.traverse.state = .parked .brk →
        ∃ t, exec .holdoffExpiry s = .next t ∧ ResumeStepMade s t ∧
          (t.edges.lastResume = .notTried → ChangesOnly [.edges] s.nextEvent t) ∧
          (t.edges.lastResume = .refused → ChangesOnly [.edges, .alarms, .notices] s.nextEvent t) ∧
          ChangesOnly [.traverse, .profile, .edges, .alarms, .notices] s.nextEvent t)

/-- ALARM_SENSE_CHANGE and LINE_READBACK_EXPIRY (R175): a difference of the two levels starts the 50 ms timer,
agreement stops it; the expiry starts LINE_CHECK with the two levels; while it stands agreement ends it.
A change to the same level and an expiry without the timer do nothing (log entry 2). The entry is told in notices as it
changes (R172). -/
def Obligations.AlarmLineChecked : Prop :=
  ∀ s : State, s.settled →
    (∀ level : Bool, level = s.alarms.alarmSense → exec (.alarmSenseChange level) s = .next s.nextEvent) ∧
    (∀ level : Bool, level ≠ s.alarms.alarmSense → s.alarms.lineCheck = none →
      exec (.alarmSenseChange level) s =
        .next
          (s.nextEvent.setAlarms
            { s.alarms with
              alarmSense := level
              readback :=
                if level = s.alarms.alarmOut then none
                else if s.alarms.readback = none then some 50
                else s.alarms.readback })) ∧
    (∀ (level : Bool) (levels : Bool × Bool), level ≠ s.alarms.alarmSense → s.alarms.lineCheck = some levels →
      level = s.alarms.alarmOut →
      ∃ t, exec (.alarmSenseChange level) s = .next t ∧ t.alarms.lineCheck = none ∧ t.alarms.alarmSense = level ∧
        t.alarms.entries[srcLineCheck].state =
          (match s.alarms.entries[srcLineCheck].state with
           | .active => .latched
           | .activeAcked => .clear
           | x => x) ∧
        (∀ i : Fin 16, i ≠ srcLineCheck → t.alarms.entries[i] = s.alarms.entries[i]) ∧
        ChangeReported srcLineCheck s t ∧ ChangesOnly [.alarms, .notices] s.nextEvent t) ∧
    (s.alarms.readback = none → exec .lineReadbackExpiry s = .next s.nextEvent) ∧
    (s.alarms.readback ≠ none → AlarmLaw s → s.alarms.sets[srcLineCheck].line = false →
      s.alarms.entries[srcLineCheck].state = .clear ∨ s.alarms.entries[srcLineCheck].state = .latched →
      ∃ t, exec .lineReadbackExpiry s = .next t ∧ t.alarms.readback = none ∧
        t.alarms.lineCheck = some (s.alarms.alarmOut, s.alarms.alarmSense) ∧
        t.alarms.entries[srcLineCheck].state = .active ∧
        Occurred srcLineCheck (some (.levels s.alarms.alarmOut s.alarms.alarmSense)) false s t ∧
        ChangesOnly motionParts s.nextEvent t)

/-! ### The serial line and the resets -/

/-- RECEIVE_BYTE (R182, R183, R184, R185): the delimiter begins a frame and makes a partial one SHORT; outside a
frame every other byte is ignored; the escape byte hands on its next byte XOR 0x20; a framing fault, a second
escape byte, a length beyond 1,024 and a failed check each discard the frame with their link error; a good frame
joins a queue with room, is refused with BUSY or dropped with OVERRUN by a full one, and a RESTART of length 0 is
taken at once. -/
def Obligations.ReceivedByteAssembled : Prop :=
  ∀ s : State, s.settled →
    let rx := s.link.rx
    let becomes (x : RxState) (e : LinkError) : Result :=
      .next (s.nextEvent.setLink { s.nextEvent.link with rx := x, lastError := e })
    (rx = .hunt → exec (.receiveByte .framingFault) s = .next s.nextEvent) ∧
    (rx ≠ .hunt → exec (.receiveByte .framingFault) s = becomes .hunt .framing) ∧
    (∀ b : Byte, rx = .hunt → b ≠ 0xF0 → exec (.receiveByte (.byte b)) s = .next s.nextEvent) ∧
    (rx = .hunt ∨ rx = .content [] →
      exec (.receiveByte (.byte 0xF0)) s = becomes (.content []) s.link.lastError) ∧
    (rx ≠ .hunt → rx ≠ .content [] → exec (.receiveByte (.byte 0xF0)) s = becomes (.content []) .short) ∧
    (∀ bytes, rx = .content bytes →
      exec (.receiveByte (.byte 0xF1)) s = becomes (.escape bytes) s.link.lastError) ∧
    (∀ bytes, rx = .escape bytes → exec (.receiveByte (.byte 0xF1)) s = becomes .hunt .escape) ∧
    ∀ (bytes : List Byte) (b x : Byte), b ≠ 0xF0 → b ≠ 0xF1 →
      (rx = .content bytes ∧ x = b ∨ rx = .escape bytes ∧ x = b ^^^ 0x20) →
      let content := bytes ++ [x]
      let n := (content.getD 2 0).toNat + 256 * (content.getD 3 0).toNat
      let sum := (content.getD (4 + n) 0).toNat + 256 * (content.getD (5 + n) 0).toNat
      let m : Message := { kind := content.getD 0 0, tag := content.getD 1 0, body := (content.drop 4).take n }
      (content.length < 4 →
        exec (.receiveByte (.byte b)) s = becomes (.content content) s.link.lastError) ∧
      (content.length = 4 → 1024 < n → exec (.receiveByte (.byte b)) s = becomes .hunt .length) ∧
      (content.length = 4 → n ≤ 1024 →
        exec (.receiveByte (.byte b)) s = becomes (.content content) s.link.lastError) ∧
      (4 < content.length → content.length ≠ n + 6 →
        exec (.receiveByte (.byte b)) s = becomes (.content content) s.link.lastError) ∧
      (4 < content.length → content.length = n + 6 → (crc16 (content.take (n + 4))).toNat ≠ sum →
        exec (.receiveByte (.byte b)) s = becomes .hunt .check) ∧
      (4 < content.length → content.length = n + 6 → (crc16 (content.take (n + 4))).toNat = sum →
        (m.kind = 0x03 → m.body = [] →
          exec (.receiveByte (.byte b)) s = exec (.restart m.tag) (s.setLink { s.link with rx := .hunt })) ∧
        (¬(m.kind = 0x03 ∧ m.body = []) → s.link.queue.length < 4 →
          exec (.receiveByte (.byte b)) s =
            .next
              (s.nextEvent.setLink { s.nextEvent.link with rx := .hunt, queue := s.link.queue ++ [m] })) ∧
        (¬(m.kind = 0x03 ∧ m.body = []) → 4 ≤ s.link.queue.length → s.link.refusal = none →
          exec (.receiveByte (.byte b)) s =
            .next
              (s.nextEvent.setLink
                { s.nextEvent.link with
                  rx := .hunt
                  refusal := some
                    { message := { kind := m.kind + 0x80, tag := m.tag, body := [3] }
                      ready := s.link.eventNo + 1 } })) ∧
        (¬(m.kind = 0x03 ∧ m.body = []) → 4 ≤ s.link.queue.length → s.link.refusal ≠ none →
          exec (.receiveByte (.byte b)) s = becomes .hunt .overrun))

/-- TRANSMIT_FRAME (R187, R188, R189): an idle transmitter sends an ALARM notice that joined no later than every
waiting answer became ready; else the BUSY refusal; else the reply; else the next chunk of the readout; else the
oldest notice. A notice leaves its queue as it begins to be sent, and the whole frame is formed then. -/
def Obligations.TransmitterChooses : Prop :=
  ∀ s : State, s.settled → NoticeLaw s →
    let l := s.link
    let sends (origin : TxOrigin) (m : Message) (l : LinkController) : Result :=
      .next (s.nextEvent.setLink
        { l with transmitting := some { origin := origin, message := m, wire := m.wire }, eventNo := s.link.eventNo + 1 })
    let kind (key : NoticeKey) : Byte :=
      match key with
      | .alarm _ => 0x50
      | .scan => 0x51
      | .motion => 0x52
      | .std => 0x53
    let ahead (n : QueuedNotice) : Prop :=
      (∃ i, n.key = .alarm i) ∧ (∀ w, l.refusal = some w → n.joined ≤ w.ready) ∧
        (∀ w, l.slot = some w → n.joined ≤ w.ready) ∧ ∀ r, l.readout = some r → n.joined ≤ r.ready
    (l.transmitting ≠ none → exec .transmitFrame s = .next s.nextEvent) ∧
    (l.transmitting = none →
      (∀ front n back, l.notices = front ++ n :: back → ahead n → (∀ x ∈ front, ¬ahead x) →
        exec .transmitFrame s =
          sends (.notice n.key) { kind := kind n.key, tag := 0, body := n.body }
            { l with notices := front ++ back }) ∧
      ((∀ n ∈ l.notices, ¬ahead n) →
        (∀ w, l.refusal = some w → exec .transmitFrame s = sends .refusal w.message l) ∧
        (∀ w, l.refusal = none → l.slot = some w → exec .transmitFrame s = sends .reply w.message l) ∧
        (∀ r, l.refusal = none → l.slot = none → l.readout = some r →
          let formed : List Byte × ReadoutSource :=
            match r.first with
            | some content => (content, r.source)
            | none => r.source.next s
          let last : Bool :=
            match formed.2 with
            | .records rest => rest.isEmpty
            | .profile _ _ _ count => count = 0
          exec .transmitFrame s =
            sends (.chunk last)
              { kind := r.kind, tag := r.tag,
                body := 0 :: BitVec.ofNat 8 (r.next % 128 + if last then 128 else 0) :: formed.1 }
              { l with readout := some { r with next := r.next + 1, first := none, source := formed.2 } }) ∧
        (∀ n rest, l.refusal = none → l.slot = none → l.readout = none → l.notices = n :: rest →
          exec .transmitFrame s =
            sends (.notice n.key) { kind := kind n.key, tag := 0, body := n.body } { l with notices := rest }) ∧
        (l.refusal = none → l.slot = none → l.readout = none → l.notices = [] →
          exec .transmitFrame s = .next s.nextEvent)))

/-- The chunks of a readout (R187): the next chunk of records takes whole records from the front while the next one
still fits in 1,000 bytes; the next chunk of a profile takes up to 250 boxes of the held bank. -/
def Obligations.ChunksHoldWholeRecords : Prop :=
  (∀ (records : List (List Byte)) (s : State),
    ∃ taken left, records = taken ++ left ∧
      (ReadoutSource.records records).next s = (taken.flatten, .records left) ∧ taken.flatten.length ≤ 1000 ∧
      ∀ r rest, left = r :: rest → 1000 < taken.flatten.length + r.length) ∧
  ∀ (c : Fin 5) (scanForm : Bool) (first count : Nat) (h : Fin 2) (bank : Bank) (x : BankChannel) (s : State),
    s.profile.held = some h → s.profile.banks[h] = some bank → bank.channels[c] = some x →
    (ReadoutSource.profile c scanForm first count).next s =
      (((x.boxes.drop first).take (min 250 count)).flatMap fun b =>
          leInt 3 (if scanForm then (if b.state = .valid then b.scanValue.getD 0 else 0) else b.filtered) ++
            [BitVec.ofNat 8 (match b.state with
              | .valid => 0
              | .missing => 1
              | .void => 2)],
        .profile c scanForm (first + min 250 count) (count - min 250 count))

/-- FRAME_SENT (R185, R186, R187, R136): the sent frame leaves the transmitter; a refusal or a reply empties its
slot; a chunk not marked last leaves its readout in flight; the last chunk ends it, and a READ PROFILE's hold with
it, the waiting bank then being published. DISPATCH_REQUEST (R186): nothing is dispatched while the queue is empty or
an answer is not yet sent; a kind that Table 11-11 does not have is answered UNKNOWN, and a body of the wrong length
MALFORMED, both leaving every block as it was. A frame sent with none being sent does nothing (log entry 2). -/
def Obligations.AnswersLeaveAndRequestsEnter : Prop :=
  ∀ s : State, s.settled →
    ((s.link.queue = [] ∨ s.link.slot ≠ none ∨ s.link.readout ≠ none →
        exec .dispatchRequest s = .next s.nextEvent) ∧
      ∀ m rest, s.link.queue = m :: rest → s.link.slot = none → s.link.readout = none →
        let u := s.nextEvent.setLink { s.nextEvent.link with queue := rest }
        (m.kind.toNat ∉
            [0x01, 0x02, 0x03, 0x04, 0x05, 0x10, 0x11, 0x12, 0x13, 0x14, 0x20, 0x21, 0x22, 0x23, 0x24, 0x25, 0x26,
              0x27, 0x28, 0x29, 0x2A, 0x30, 0x31, 0x32, 0x33, 0x34, 0x35, 0x36, 0x38, 0x39] →
          exec .dispatchRequest s = .next (u.withReply m.kind m.tag .unknown [])) ∧
        (∀ n, requestLength m.kind m.body = some n → m.body.length ≠ n →
          exec .dispatchRequest s = .next (u.withReply m.kind m.tag .malformed []))) ∧
    let l : LinkController := { s.nextEvent.link with transmitting := none }
    (s.link.transmitting = none → exec .frameSent s = .next s.nextEvent) ∧
    ∀ f, s.link.transmitting = some f →
      (∀ key, f.origin = .notice key → exec .frameSent s = .next (s.nextEvent.setLink l)) ∧
      (f.origin = .refusal → exec .frameSent s = .next (s.nextEvent.setLink { l with refusal := none })) ∧
      (f.origin = .reply → exec .frameSent s = .next (s.nextEvent.setLink { l with slot := none })) ∧
      (∀ r, f.origin = .chunk false → l.readout = some r →
        exec .frameSent s =
          .next (s.nextEvent.setLink { l with readout := some { r with ready := s.link.eventNo + 1 } })) ∧
      (f.origin = .chunk true → s.profile.held = none →
        exec .frameSent s = .next (s.nextEvent.setLink { l with readout := none })) ∧
      (∀ h, f.origin = .chunk true → s.profile.held = some h → s.profile.waiting = none →
        exec .frameSent s =
          .next ((s.nextEvent.setLink { l with readout := none }).setProfile { s.profile with held := none })) ∧
      (∀ h w, f.origin = .chunk true → s.profile.held = some h → s.profile.waiting = some w →
        exec .frameSent s =
          .next ((s.nextEvent.setLink { l with readout := none }).setProfile
            { s.profile with held := none, published := some w, waiting := none }))

/-- COLD_RESET (R16, R39, R45, R158, R180 and every block's cold column): whatever the state was, every block holds
its cold column with the levels of the input pins, and the queue of commands stands. An asserted limit line then
halts with cause LIMIT and starts its condition, whose LINE asserts ALARM_OUT; an asserted break line starts its
debounce; a difference of the two alarm lines starts the readback timer. With no limit line asserted no notice waits;
with one, the notices of the new entry and of the halt join the emptied queue (R17, R172, R189, R190). -/
def Obligations.ColdResetRestores : Prop :=
  ∀ (cause : ColdCause) (pins : ResetPins) (s : State),
    let limit := pins.limitLo || pins.limitHi
    ∃ t, exec (.coldReset cause pins) s = .next t ∧ t.pending = s.pending ∧
      t.position =
        { State.reset.position with
          encA := pins.encA, encB := pins.encB, indexAsserted := pins.encI, homeSw := pins.homeSw } ∧
      t.traverse =
        { State.reset.traverse with
          state := if limit then .halted .limit else .unreferenced
          holder := if limit then some .halt else none
          drvReady := pins.drvReady, limitLo := pins.limitLo, limitHi := pins.limitHi } ∧
      t.headLink = State.reset.headLink ∧ t.conversion = State.reset.conversion ∧
      t.standardize = State.reset.standardize ∧ t.boxes = State.reset.boxes ∧ t.profile = State.reset.profile ∧
      t.point = State.reset.point ∧
      t.edges =
        { State.reset.edges with breakIn := pins.breakIn, debounce := if pins.breakIn then some 200 else none } ∧
      t.alarms =
        { State.reset.alarms with
          entries := t.alarms.entries, alarmOut := limit, alarmSense := pins.alarmSense
          readback := if pins.alarmSense = limit then none else some 50 } ∧
      (∀ i : Fin 16, i ≠ srcLimit ∨ limit = false → t.alarms.entries[i] = AlarmEntry.cold) ∧
      (limit = true →
        t.alarms.entries[srcLimit].state = .active ∧ t.alarms.entries[srcLimit].count = 1 ∧
        (t.alarms.entries[srcLimit].episode.bind Episode.detail) = some (.lines pins.limitLo pins.limitHi)) ∧
      t.link =
        { State.reset.link with
          baud1 := pins.baud1, baud0 := pins.baud0, eventNo := s.link.eventNo + 1, notices := t.link.notices
          startCause := match cause with
            | .power => .power
            | .pin => .pin } ∧
      (limit = false → t.link.notices = []) ∧
      (limit = true →
        Posted (.alarm srcLimit) (t.alarmNotice srcLimit) State.reset t ∧ Posted .motion t.motionNotice State.reset t)

/-- RESTART (R45, R194 and every block's warm column): OK with start cause RESTART and the uptime is the one answer
that waits; the queue, the notices and what was being sent are given up; positions, settings, curves, records of
standardize, layouts, zones, the edge table and the reaction sets stand, measurements and alarm entries do not. The
traverse is HALTED with cause RESTART with a reference and UNREFERENCED without one, or HALTED with cause LIMIT on an
asserted limit line; a running scan is abandoned with cause RESTART and its record alone stands. With no limit line
asserted no notice waits; with one, LIMIT and the halt are told in the emptied queue (R17, R172, R189). -/
def Obligations.RestartKeepsSettings : Prop :=
  ∀ (tag : Byte) (s : State),
    let limit := s.traverse.limitLo || s.traverse.limitHi
    ∃ t, exec (.restart tag) s = .next t ∧ t.pending = s.pending ∧
      t.replied 0x03 tag .ok (2 :: fieldBytes 4 s.link.uptime) ∧
      t.link =
        { s.nextEvent.link with
          queue := [], slot := t.link.slot, refusal := none, readout := none, notices := t.link.notices
          lastError := .none, startCause := .restart, transmitting := none } ∧
      (limit = false → t.link.notices = []) ∧
      (limit = true →
        let emptied := s.setLink { s.link with notices := [] }
        Reported srcLimit emptied t ∧ Posted .motion t.motionNotice emptied t) ∧
      t.position = { s.position with captureArmed := false, history := [] } ∧
      t.traverse =
        { s.traverse with
          state :=
            if limit then .halted .limit
            else if s.position.reference = .referenced then .halted .restart
            else .unreferenced
          holder := if limit ∨ s.position.reference = .referenced then some .halt else none
          speed := 0, duty := 0, drvEn := false, shutter := false, runningScan := none, turnPoint := none
          detour := false, dwellTimer := none, moveTimer := none, stallTimer := 0, readyWatch := none
          driveFault := false, resumeAttempts := 0 } ∧
      t.headLink =
        { s.headLink with
          links := Vector.replicate 4 SlotLink.cold, reception := none, housekeeping := [], faultSlots := 0
          trippedWatches := 0 } ∧
      t.conversion = { s.conversion with hysteresisPresent := false, latest := .unknown } ∧
      t.standardize =
        { s.standardize with
          records := t.standardize.records, pendingRequest := none, cycle := none, expiredSlots := 0 } ∧
      (∀ k : Fin 4,
        t.standardize.records[k] =
          { s.standardize.records[k] with lastResult := t.standardize.records[k].lastResult }) ∧
      ((∀ d, s.traverse.state ≠ .standardizing d) → t.standardize.records = s.standardize.records) ∧
      t.boxes = { s.boxes with context := none, accumulators := Vector.replicate 4 [] } ∧
      t.profile =
        { State.reset.profile with
          nextScan := s.profile.nextScan, settings := s.profile.settings, history := t.profile.history } ∧
      (s.traverse.state ≠ .traversing → t.profile.history = []) ∧
      (∀ c, s.traverse.state = .traversing → s.profile.context = some c →
        ∃ r, t.profile.history = [r] ∧ r.scan = c.scan ∧ r.dir = c.dir ∧ r.abandoned = some .restart ∧
          r.endPosition = s.position.counter.toInt ∧ r.parts = []) ∧
      t.edges =
        { State.reset.edges with
          settings := s.edges.settings, low := s.edges.low, high := s.edges.high, breakIn := s.edges.breakIn
          debounce := if s.edges.breakIn then some s.edges.settings.breakDebounce else none } ∧
      t.point = State.reset.point ∧ t.alarms.sets = s.alarms.sets ∧
      t.alarms.alarmSense = s.alarms.alarmSense ∧ t.alarms.lineCheck = none ∧
      t.alarms.alarmOut = (limit && s.alarms.sets[srcLimit].line) ∧
      t.alarms.readback = (if t.alarms.alarmOut = s.alarms.alarmSense then none else some 50) ∧
      (∀ i : Fin 16, i ≠ srcLimit ∨ limit = false → t.alarms.entries[i] = AlarmEntry.cold) ∧
      (limit = true → t.alarms.entries[srcLimit].state = .active ∧ t.alarms.entries[srcLimit].count = 1)

/-! ### Readings and readouts -/

/-- IDENTIFY, STATUS, GET CONFIG, READ STD, READ EDGES and READ ALARMS (R98, R157, R179, R191, R192, R193, R196): on a
free link each is answered OK with its body at once, and nothing else changes. The bodies are those of Table 11-9,
field by field, every enumeration sent as its place in the lists of Table 11-10: IDENTIFY carries part code 680,
revision 1, the start cause, the uptime, the line speed and the capacities; STATUS, READ STD (the seconds of a cycle
and an age by log entries 12 and 28) and READ EDGES the fields of their owners as they stand, with zeros for a cycle, a
slot of it, a search context or another field that does not apply (log entry 27) and a free value for a number its
field cannot hold (log entry 47); READ ALARMS the sixteen entries with their details (Table 11-8; in HOMING as log
entry 34 has it), sets and fixed parts, the two levels of the alarm line, the readback timer and the blocking set; GET
CONFIG the group and its settings in the layout of their SET body (Table 11-11; the min_count byte of channel 4 is a
free value: log entry 8), and INVALID for a group beyond 10. -/
def Obligations.ReadingsAnswered : Prop :=
  EnumerationsAsListed ∧
  ∀ (tag : Byte) (s : State), s.settled → s.linkFree →
    exec (.identify tag) s =
      .next
        (s.nextEvent.withReply 0x01 tag .ok
          (laid
            [(2, 680), (1, 1), (1, s.link.startCause.code), (4, s.link.uptime.toNat),
              (1, 2 * s.link.baud1.toNat + s.link.baud0.toNat), (2, 768), (1, 4), (1, 5), (1, 16), (1, 15), (1, 8),
              (1, 8), (1, 16), (1, 32), (1, 64), (1, 2), (1, 4), (2, 1024)])) ∧
    exec (.status tag) s = .next (s.nextEvent.withReply 0x02 tag .ok (laid s.statusFields)) ∧
    exec (.readStd tag) s = .next (s.nextEvent.withReply 0x34 tag .ok (laid s.stdFields)) ∧
    exec (.readEdges tag) s = .next (s.nextEvent.withReply 0x35 tag .ok (laid s.edgeFields)) ∧
    exec (.readAlarms tag) s =
      .next
        (s.nextEvent.withReply 0x36 tag .ok
          (((List.finRange 16).flatMap s.alarmEntryBytes) ++
            laid
              [(1, s.alarms.alarmOut.toNat), (1, s.alarms.alarmSense.toNat), (1, s.alarms.readback.isSome.toNat),
                (2, s.blockingField)])) ∧
    ∀ group : Byte,
      (10 < group.toNat → exec (.getConfig tag group) s = .next (s.nextEvent.withReply 0x05 tag .invalid [])) ∧
      (group.toNat ≤ 10 →
        let contents := laid (s.groupFields (Config.channel4MinCount (s.link.eventNo + 1)) group.toNat)
        s.nextEvent.configBytes group.toNat = some contents ∧
          exec (.getConfig tag group) s = .next (s.nextEvent.withReply 0x05 tag .ok (group :: contents)))

/-- READ PROFILE (R136, R140, R187): INVALID for a channel beyond 4 or a form beyond 1, STATE with no published
bank; otherwise the published bank is held and its readout is in flight with the header and the first boxes of the
clamped range, no box for an absent channel. READ HISTORY, READ POINT and READ HOUSEKEEPING (R64, R141, R165, R187):
each is a readout whose first chunk holds its header and as many of its records as fit, and changes nothing else. A
count above the ring's capacity is taken as the capacity; a first number of 0 names the oldest records; a
housekeeping range is clamped to the 64 entries, and its header carries the first index so held (log entry 27). -/
def Obligations.ReadoutsBegin : Prop :=
  (∀ (tag channel form : Byte) (firstBox count : Word16) (s : State), s.settled → s.linkFree →
    let c := Instr.readProfile tag channel form firstBox count
    (4 < channel.toNat ∨ 1 < form.toNat → exec c s = .next (s.nextEvent.withReply 0x30 tag .invalid [])) ∧
    (channel.toNat ≤ 4 → form.toNat ≤ 1 → s.profile.published = none →
      exec c s = .next (s.nextEvent.withReply 0x30 tag .state [])) ∧
    (∀ (ch : Fin 5) (w : Fin 2) (bank : Bank), channel.toNat = ch → form.toNat ≤ 1 →
      s.profile.published = some w → s.profile.banks[w] = some bank →
      let n := bank.layout.boxes
      let first := min firstBox.toNat n
      let clamped := if bank.channels[ch] = none then 0 else min count.toNat (n - first)
      let boxes := match bank.channels[ch] with
        | none => []
        | some x => (x.boxes.drop first).take (min 250 clamped)
      exec c s =
        .next
          ((s.nextEvent.setProfile { s.profile with held := some w }).withReadout 0x30 tag
            (bank.header (s.link.eventNo + 1) ch first clamped ++ boxes.flatMap (BankBox.bytes (form = 1)))
            (.profile channel.toNat (form = 1) (first + min 250 clamped) (clamped - min 250 clamped))))) ∧
  (∀ (tag : Byte) (first : Word32) (count : Byte) (s : State), s.settled → s.linkFree →
    (let run := inRange ScanRecord.scan s.profile.history first.toNat (min count.toNat 32)
     let p := fitRecords 1000 (run.map ScanRecord.bytes)
     exec (.readHistory tag first count) s =
      .next (s.nextEvent.withReadout 0x31 tag (runBytes ScanRecord.scan run ++ p.1) (.records p.2))) ∧
    (let run := inRange PointBlock.block s.point.ring first.toNat (min count.toNat 64)
     let p := fitRecords 1000 (run.map (PointBlock.bytes (s.link.eventNo + 1)))
     exec (.readPoint tag first count) s =
      .next (s.nextEvent.withReadout 0x32 tag (s.pointHeader run ++ p.1) (.records p.2)))) ∧
  (∀ (tag first count : Byte) (s : State), s.settled → s.linkFree →
    let f := min first.toNat 64
    let n := min count.toNat (64 - f)
    let p := fitRecords 1000 ((List.range n).map fun i => s.hkBytes (f + i))
    exec (.readHousekeeping tag first count) s =
      .next (s.nextEvent.withReadout 0x33 tag (s.hkHeader f n ++ p.1) (.records p.2))) ∧
  (∀ (records : List ScanRecord) (n : Nat), consecutive (records.map ScanRecord.scan) → records.length ≤ 32 →
    inRange ScanRecord.scan records 0 n = records.take n)

/-! ### Traverse requests -/

/-- HOME (R35): STATE outside UNREFERENCED, PARKED and HALTED, then STATE with no frame configured, then BLOCKED;
otherwise ACCEPTED: DISCARD, DRV_EN, HOMING held by host in LEAVE or SEEK by HOME_SW as it
was last sampled (log entry 13), the move timer started, and a MOTION notice posted (R17). -/
def Obligations.HomeJudged : Prop :=
  ∀ (tag : Byte) (s : State), s.settled → s.linkFree →
    let rests : Prop :=
      s.traverse.state = .unreferenced ∨ (∃ c, s.traverse.state = .parked c) ∨ ∃ c, s.traverse.state = .halted c
    (¬rests → exec (.home tag) s = .next (s.nextEvent.withReply 0x10 tag .state [])) ∧
    (rests → s.position.configured = false →
      exec (.home tag) s = .next (s.nextEvent.withReply 0x10 tag .state [])) ∧
    (rests → s.position.configured = true → s.blocked = true →
      exec (.home tag) s = .next (s.nextEvent.withReply 0x10 tag .blocked [])) ∧
    (rests → s.position.configured = true → s.blocked = false →
      ∃ t, exec (.home tag) s = .next t ∧ t.replied 0x10 tag .accepted [] ∧
        t.position = { s.position with reference := .unknown } ∧
        t.traverse.state = .homing (if s.position.homeSw then .leave else .seek) ∧
        t.traverse.holder = some .host ∧ t.traverse.drvEn = true ∧ t.traverse.shutter = false ∧
        t.traverse.moveTimer = some s.position.frame.moveTimeout ∧ t.traverse.speed = s.traverse.speed ∧
        MotionNoticed s t ∧
        ChangesOnly [.position, .traverse, .edges, .notices, .answers] s.nextEvent t) ∧
    (s.blocked = true ↔
      ∃ i : Fin 16, (s.alarms.sets[i].park = true ∨ s.alarms.sets[i].halt = true) ∧
        s.alarms.entries[i].state ≠ .clear)

/-- START (R37, R127, R164): STATE when a readiness fails, then BLOCKED, then by the traverse state, as the table
of R37 gives it. An approach clears the resume attempts, ends an open dwell with cause START and, from a break park,
returns every filter age to 0. A MOTION notice tells a move and a change of destination (R17). -/
def Obligations.StartJudged : Prop :=
  ∀ (tag : Byte) (s : State), s.settled → s.linkFree →
    let cleared := s.nextEvent.setTraverse { s.traverse with resumeAttempts := 0 }
    let st := s.traverse.state
    let rejoins : Prop :=
      st = .traversing ∨ st = .reversing ∨ (∃ d, d ≠ .park ∧ st = .standardizing d) ∨
      (∃ d p ph, d ≠ .park ∧ st = .positioning ⟨.toStd d, p, ph⟩) ∨ ∃ d b p ph, st = .positioning ⟨.toTurn d b, p, ph⟩
    let starts : Prop :=
      (∃ c, st = .parked c) ∨ st = .dwelling ∨ (∃ c p ph, st = .positioning ⟨.toPark c, p, ph⟩) ∨
      ∃ n p ph, st = .positioning ⟨.toPoint n, p, ph⟩
    (s.ready = false → exec (.start tag) s = .next (s.nextEvent.withReply 0x11 tag .state [])) ∧
    (s.ready = true → s.blocked = true → exec (.start tag) s = .next (s.nextEvent.withReply 0x11 tag .blocked [])) ∧
    (s.ready = true → s.blocked = false →
      ((st = .unreferenced ∨ (∃ p, st = .homing p) ∨ (∃ c, st = .halted c) ∨
          ((∃ m, st = .positioning m) ∧ s.traverse.holder = some .park)) →
        exec (.start tag) s = .next (s.nextEvent.withReply 0x11 tag .state [])) ∧
      (rejoins → ¬((∃ m, st = .positioning m) ∧ s.traverse.holder = some .park) →
        exec (.start tag) s = .next (cleared.withReply 0x11 tag .ok [])) ∧
      (∀ m : Move, st = .standardizing .park ∨
          st = .positioning { m with purpose := .toStd .park } ∧ s.traverse.holder ≠ some .park →
        ∃ t, exec (.start tag) s = .next t ∧ t.replied 0x11 tag .accepted [] ∧
          t.traverse =
            { s.traverse with
              state :=
                if st = .standardizing .park then .standardizing .turnLow
                else .positioning { m with purpose := .toStd .turnLow }
              holder := some .host, resumeAttempts := 0 } ∧
          MotionNoticed s t ∧ ChangesOnly [.traverse, .notices, .answers] s.nextEvent t) ∧
      (starts → ¬((∃ m, st = .positioning m) ∧ s.traverse.holder = some .park) →
        ∃ t, exec (.start tag) s = .next t ∧ t.replied 0x11 tag .accepted [] ∧
          (s.lacksStandardize = true → MoveBegun (.toStd .turnLow) s.position.frame.stdPosition .host s t) ∧
          (s.lacksStandardize = false → MoveBegun (.toTurn .fwd false) (s.turnPointFor .rev) .host s t) ∧
          t.traverse.resumeAttempts = 0 ∧
          (st = .parked .brk →
            t.profile =
              { s.profile with
                filters := s.profile.filters.map fun f => { f with age := 0 } }) ∧
          (st ≠ .parked .brk → t.profile = s.profile) ∧
          (st = .dwelling → DwellEnded .start s t) ∧ (st ≠ .dwelling → t.point = s.point) ∧
          ChangesOnly [.traverse, .profile, .edges, .point, .notices, .answers] s.nextEvent t)) ∧
    (s.ready = true ↔
      s.position.configured = true ∧ s.boxes.layout ≠ none ∧ s.headLink.slots[(0 : Fin 4)].enabled = true ∧
        s.conversion.curves[(0 : Fin 4)] ≠ none ∧ s.position.reference = .referenced)

/-- STOP (R38): by the traverse state, as the table of R38 gives it. What runs is ended: a scan and a cycle are
abandoned, a dwell ends with cause STOP (R91, R131, R164). A STOP during a move TO_PARK held by host or by the scan
program changes its cause to HOST; that host then holds the move, whose target, phase and move timer stand, is the
model's reading (log entry 22). A change is told in the MOTION, SCAN and STD notices (R17, R92, R138); the edges of an
abandoned scan are settled as log entries 43 and 48 have it. -/
def Obligations.StopJudged : Prop :=
  ∀ (tag : Byte) (s : State), s.settled → s.linkFree →
    let st := s.traverse.state
    let stays := exec (.stop tag) s = .next (s.nextEvent.withReply 0x12 tag .ok [])
    (st = .unreferenced ∨ (∃ c, st = .parked c) → stays) ∧
    (∀ m, st = .positioning m → s.traverse.holder = some .park → stays) ∧
    (∀ p, st = .homing p →
      ∃ t, exec (.stop tag) s = .next t ∧ t.replied 0x12 tag .ok [] ∧ t.traverse.state = .unreferenced ∧
        t.traverse.speed = 0 ∧ t.traverse.duty = 0 ∧ t.traverse.drvEn = false ∧ t.traverse.holder = none ∧
        t.position = { s.position with captureArmed := false } ∧ MotionNoticed s t ∧
        ChangesOnly [.position, .traverse, .edges, .alarms, .notices, .answers] s.nextEvent t) ∧
    (∀ c, st = .halted c →
      (s.blocked = true → exec (.stop tag) s = .next (s.nextEvent.withReply 0x12 tag .blocked [])) ∧
      (s.blocked = false → s.position.reference = .referenced →
        ∃ t, exec (.stop tag) s = .next t ∧ t.replied 0x12 tag .accepted [] ∧
          MoveBegun (.toPark .host) s.position.frame.parkPosition .host s t ∧
          ChangesOnly [.traverse, .edges, .notices, .answers] s.nextEvent t) ∧
      (s.blocked = false → s.position.reference ≠ .referenced →
        ∃ t, exec (.stop tag) s = .next t ∧ t.replied 0x12 tag .ok [] ∧ t.traverse.state = .unreferenced ∧
          t.traverse.holder = none ∧ t.traverse.drvEn = false ∧ MotionNoticed s t ∧
          ChangesOnly [.traverse, .edges, .alarms, .notices, .answers] s.nextEvent t)) ∧
    (∀ c p ph, st = .positioning ⟨.toPark c, p, ph⟩ → s.traverse.holder ≠ some .park →
      ∃ t, exec (.stop tag) s = .next t ∧ t.replied 0x12 tag .accepted [] ∧
        t.traverse = { s.traverse with state := .positioning ⟨.toPark .host, p, ph⟩, holder := some .host } ∧
        MotionNoticed s t ∧ ChangesOnly [.traverse, .notices, .answers] s.nextEvent t) ∧
    ((∃ m, st = .positioning m ∧ s.traverse.holder ≠ some .park ∧ ∀ c, m.purpose ≠ .toPark c) ∨
        (∃ d, st = .standardizing d) ∨ st = .traversing ∨ st = .reversing ∨ st = .dwelling →
      ∃ t, exec (.stop tag) s = .next t ∧ t.replied 0x12 tag .accepted [] ∧
        MoveBegun (.toPark .host) s.position.frame.parkPosition .host s t ∧ RunningEnded .host .stop s t ∧
        ChangesOnly [.traverse, .standardize, .profile, .edges, .point, .notices, .answers] s.nextEvent t)

/-- POINT (R159, R160, R164): INVALID outside the soft limits or with a block length outside 1 to 1,000, then STATE
when a readiness fails, then BLOCKED, then by the traverse state. In DWELLING at its own target the dwell goes on
and a new block length is pending; elsewhere a move TO_POINT begins and what runs is ended. A change is told in
the MOTION, SCAN and STD notices (R17, R92, R138); the edges of an abandoned scan are settled as log entries 43 and 48
have it. -/
def Obligations.PointJudged : Prop :=
  ∀ (tag : Byte) (position : Word32) (len : Word16) (s : State), s.settled → s.linkFree →
    let st := s.traverse.state
    let c := Instr.point tag position len
    let valid : Prop :=
      (s.position.frame.travelMin : Int) ≤ position.toInt ∧ position.toInt ≤ s.position.frame.travelMax ∧
        1 ≤ len.toNat ∧ len.toNat ≤ 1000
    (¬valid → exec c s = .next (s.nextEvent.withReply 0x13 tag .invalid [])) ∧
    (valid → s.ready = false → exec c s = .next (s.nextEvent.withReply 0x13 tag .state [])) ∧
    (valid → s.ready = true → s.blocked = true → exec c s = .next (s.nextEvent.withReply 0x13 tag .blocked [])) ∧
    (valid → s.ready = true → s.blocked = false →
      ((st = .unreferenced ∨ (∃ p, st = .homing p) ∨ (∃ h, st = .halted h) ∨
          ((∃ m, st = .positioning m) ∧ s.traverse.holder = some .park)) →
        exec c s = .next (s.nextEvent.withReply 0x13 tag .state [])) ∧
      (∀ d, st = .dwelling → s.point.dwell = .opened d → d.target = position.toInt →
        exec c s =
          .next
            ((if len.toNat = d.blockLength then s.nextEvent
              else
                s.nextEvent.setPoint
                  { s.point with dwell := .opened { d with pendingLength := some len.toNat } }).withReply
              0x13 tag .ok [])) ∧
      ((∃ p, st = .parked p) ∨ st = .traversing ∨ st = .reversing ∨ (∃ d, st = .standardizing d) ∨
          (∃ m, st = .positioning m ∧ s.traverse.holder ≠ some .park) ∨
          (∃ d, st = .dwelling ∧ s.point.dwell = .opened d ∧ d.target ≠ position.toInt) →
        ∃ t, exec c s = .next t ∧ t.replied 0x13 tag .accepted [] ∧
          MoveBegun (.toPoint len.toNat) position.toInt .host s t ∧ RunningEnded .host .point s t ∧
          ChangesOnly [.traverse, .standardize, .profile, .edges, .point, .notices, .answers] s.nextEvent t))

/-- STANDARDIZE (R94): by the traverse state, as its table gives it; a request becomes pending with the option of
either request, and from PARKED a move TO_STD with destination PARK begins, told in a MOTION notice (R17). An option
byte other than 0 and 1 is judged first, as INVALID (log entry 26). -/
def Obligations.StandardizeJudged : Prop :=
  ∀ (tag option : Byte) (s : State), s.settled → s.linkFree →
    let st := s.traverse.state
    let c := Instr.standardize tag option
    let pending (u : Bool) : Standardize :=
      { s.standardize with
        pendingRequest := some (u || match s.standardize.pendingRequest with
          | some v => v
          | none => false) }
    (1 < option.toNat → exec c s = .next (s.nextEvent.withReply 0x14 tag .invalid [])) ∧
    ∀ u : Bool, option.toNat = u.toNat →
      ((st = .unreferenced ∨ (∃ h, st = .halted h) ∨ (∃ p, st = .homing p) ∨ st = .dwelling ∨
          (∃ x p ph, st = .positioning ⟨.toPark x, p, ph⟩) ∨ (∃ n p ph, st = .positioning ⟨.toPoint n, p, ph⟩) ∨
          ((∃ x, st = .parked x) ∧ s.anyCurve = false)) →
        exec c s = .next (s.nextEvent.withReply 0x14 tag .state [])) ∧
      ((∃ x, st = .parked x) → s.anyCurve = true →
        ∃ t, exec c s = .next t ∧ t.replied 0x14 tag .accepted [] ∧ t.standardize = pending u ∧
          MoveBegun (.toStd .park) s.position.frame.stdPosition .host s t ∧
          ChangesOnly [.traverse, .standardize, .edges, .notices, .answers] s.nextEvent t) ∧
      (st = .traversing ∨ st = .reversing ∨ (∃ d b p ph, st = .positioning ⟨.toTurn d b, p, ph⟩) →
        exec c s = .next ((s.nextEvent.setStandardize (pending u)).withReply 0x14 tag .accepted [])) ∧
      ((∃ d p ph, st = .positioning ⟨.toStd d, p, ph⟩) →
        exec c s = .next ((s.nextEvent.setStandardize (pending u)).withReply 0x14 tag .ok [])) ∧
      ((∃ d, st = .standardizing d) → exec c s = .next (s.nextEvent.withReply 0x14 tag .ok []))

/-! ### Settings -/

/-- The ranges of the settings (R10, R44, R47, R48, R61, R71, R83, R103, R106, R130, R143): the fields a SET request
must bring for its body to be taken. That a zone's slot set with a bit beyond slot 3 is out of range is the model's
choice (log entry 26). -/
def Obligations.SettingsRanges : Prop :=
  (∀ b : FrameBody, b.check ≠ none ↔
    b.travelMin.toNat + 1000 ≤ b.travelMax.toNat ∧ b.travelMax.toNat ≤ 150000 ∧ b.homePosition.toNat ≤ 150000 ∧
    1 ≤ b.indexTolerance.toNat ∧ b.indexTolerance.toNat ≤ 1000 ∧ b.travelMin.toNat ≤ b.parkPosition.toNat ∧
    b.parkPosition.toNat ≤ b.travelMax.toNat ∧ b.travelMin.toNat ≤ b.stdPosition.toNat ∧
    b.stdPosition.toNat ≤ b.travelMax.toNat ∧ b.encDir.toNat ≤ 1 ∧ 1000 ≤ b.vFull.toNat ∧ b.vFull.toNat ≤ 60000 ∧
    100 ≤ b.scanSpeed.toNat ∧ b.scanSpeed.toNat ≤ min 50000 b.vFull.toNat ∧ 100 ≤ b.moveSpeed.toNat ∧
    b.moveSpeed.toNat ≤ min 50000 b.vFull.toNat ∧ 100 ≤ b.homingSpeed.toNat ∧
    b.homingSpeed.toNat ≤ min 10000 b.vFull.toNat ∧ 10 ≤ b.creepSpeed.toNat ∧
    b.creepSpeed.toNat ≤ min 1000 (min b.homingSpeed.toNat b.moveSpeed.toNat) ∧ 1 ≤ b.accelStep.toNat ∧
    b.accelStep.toNat ≤ 1000 ∧ 1 ≤ b.arriveTolerance.toNat ∧ b.arriveTolerance.toNat ≤ 100 ∧
    b.overtravel.toNat ≤ 20000 ∧ b.reverseDwell.toNat ≤ 1000 ∧ 10 ≤ b.stallSpeed.toNat ∧
    b.stallSpeed.toNat ≤ 50000 ∧ 50 ≤ b.stallTime.toNat ∧ b.stallTime.toNat ≤ 5000 ∧ 1 ≤ b.moveTimeout.toNat ∧
    b.moveTimeout.toNat ≤ 600 ∧
    b.scanSpeed.toNat * b.scanSpeed.toNat / (2000 * b.accelStep.toNat) + b.scanSpeed.toNat / 1000 + 1 ≤
      b.overtravel.toNat) ∧
  (∀ b : CurveBody, b.check ≠ none ↔
    b.slot.toNat < 4 ∧ 2 ≤ b.points.length ∧ b.points.length ≤ 16 ∧
    (∀ (i : Nat) (p q : Breakpoint), b.points[i]? = some p → b.points[i + 1]? = some q → p.x.toNat < q.x.toNat) ∧
    ∀ p ∈ b.points, -4194304 ≤ p.y.toInt ∧ p.y.toInt ≤ 4194303) ∧
  (∀ b : StdBody, b.check ≠ none ↔
    b.intervalScans.toNat ≤ 10000 ∧ b.darkSettle.toNat ≤ 10000 ∧ 1 ≤ b.nDark.toNat ∧ b.nDark.toNat ≤ 4000 ∧
    b.refSettle.toNat ≤ 10000 ∧ 1 ≤ b.nRef.toNat ∧ b.nRef.toNat ≤ 4000 ∧ 1 ≤ b.stdTimeout.toNat ∧
    b.stdTimeout.toNat ≤ 600 ∧ 60 ≤ b.maxAge.toNat ∧ b.maxAge.toNat ≤ 86400 ∧
    (∀ x ∈ [b.slot0, b.slot1, b.slot2, b.slot3],
      1 ≤ x.minSpan.toNat ∧ 1 ≤ x.driftLimit.toNat ∧ x.driftLimit.toNat ≤ 1000) ∧
    b.darkSettle.toNat + b.refSettle.toNat < 1000 * b.stdTimeout.toNat) ∧
  (∀ b : LayoutBody, b.check ≠ none ↔
    1 ≤ b.boxes.toNat ∧ b.boxes.toNat ≤ 768 ∧
    (b.mode = 1 ∨ b.mode = 0 ∧ b.origin.toNat ≤ 150000 ∧ 10 ≤ b.width.toNat ∧ b.width.toNat ≤ 10000 ∧
      b.origin.toNat + b.boxes.toNat * b.width.toNat ≤ 150000)) ∧
  (∀ b : ZoneBody, b.check ≠ none ↔
    b.zone.toNat < 8 ∧ b.enabled.toNat ≤ 1 ∧ b.presenceIgnore.toNat ≤ 1 ∧ b.low.toNat ≤ b.high.toNat ∧
    b.high.toNat ≤ 150000 ∧ b.slots.toNat < 16) ∧
  (∀ b : FilterBody, b.check ≠ none ↔
    ∀ x ∈ [b.ch0, b.ch1, b.ch2, b.ch3, b.ch4],
      1 ≤ x.minValid.toNat ∧ x.minValid.toNat ≤ 768 ∧ 1 ≤ x.staleLimit.toNat) ∧
  (∀ b : SheetBody, b.check ≠ none ↔
    b.autoresume.toNat ≤ 1 ∧ b.presenceThreshold.toNat < b.absenceThreshold.toNat ∧ 1 ≤ b.edgeRun.toNat ∧
    b.edgeRun.toNat ≤ 1000 ∧ 1 ≤ b.edgeShiftLimit.toNat ∧ b.edgeShiftLimit.toNat ≤ 150000 ∧
    b.interiorMargin.toNat ≤ 20000 ∧ 1 ≤ b.holeRun.toNat ∧ b.holeRun.toNat < b.breakRun.toNat ∧
    1 ≤ b.breakDebounce.toNat ∧ b.breakDebounce.toNat ≤ 5000 ∧ 1 ≤ b.breakHoldoff.toNat ∧
    b.breakHoldoff.toNat ≤ 3600 ∧ b.resumeLimit.toNat ≤ 7) ∧
  (∀ b : WatchBody, b.check ≠ none ↔
    b.watch.toNat < 8 ∧ b.enabled.toNat ≤ 1 ∧ b.slot.toNat < 4 ∧ b.item.toNat < 16 ∧
    b.low.toNat ≤ b.high.toNat) ∧
  (∀ (b : SlotBody) (s : State), (∃ k c, b.check = some (k, c) ∧ s.slotFits k c = true) ↔
    ∃ k : Fin 4, b.slot.toNat = k ∧ b.enabled.toNat ≤ 1 ∧ b.kind.toNat ≤ 3 ∧ b.windowStart.toNat ≤ 3979 ∧
      10 ≤ b.windowLength.toNat ∧ b.windowLength.toNat ≤ 3980 ∧ b.lag.toNat ≤ 15 ∧ 1 ≤ b.errorLimit.toNat ∧
      (k = 0 ↔ b.kind = 0) ∧
      (b.kind = 1 → ∀ j : Fin 4, j ≠ k → s.headLink.slots[j].kind ≠ .water) ∧
      (b.enabled = 1 →
        (∀ j : Fin 4, j ≠ k → s.headLink.slots[j].enabled = true →
          b.windowStart.toNat + b.windowLength.toNat ≤ s.headLink.slots[j].windowStart ∨
          s.headLink.slots[j].windowStart + s.headLink.slots[j].windowLength ≤ b.windowStart.toNat) ∧
        b.windowStart.toNat + b.windowLength.toNat + 20 ≤
          match s.headLink.period with
          | some p => p
          | none => 4000)) ∧
  ∀ (p : Word16) (s : State), (∃ period, readPeriod p = some period ∧ s.windowsFit period = true) ↔
    p = 0 ∨ 250 ≤ p.toNat ∧ p.toNat ≤ 4000 ∧ p.toNat % 50 = 0 ∧
      ∀ k : Fin 4, s.headLink.slots[k].enabled = true →
        s.headLink.slots[k].windowStart + s.headLink.slots[k].windowLength + 20 ≤ p.toNat

/-- SET NOTICES, SET STD, SET FILTER and SET SHEET (R76, R83, R130, R143, R190): a body out of range is INVALID and
changes nothing; one in range is in force at once and answered OK, SET NOTICES dropping the queued notices of
disabled kinds and SET FILTER answering the values applied, with a free value for the min_count byte of channel 4 (log
entry 8). -/
def Obligations.SettingsTakenAtOnce : Prop :=
  ∀ (tag : Byte) (s : State), s.settled → s.linkFree →
    (∀ mask : Byte,
      (16 ≤ mask.toNat → exec (.setNotices tag mask) s = .next (s.nextEvent.withReply 0x04 tag .invalid [])) ∧
      (mask.toNat < 16 →
        exec (.setNotices tag mask) s =
          .next
            ((s.nextEvent.setLink
              { s.nextEvent.link with
                mask := ⟨mask.getLsbD 0, mask.getLsbD 1, mask.getLsbD 2, mask.getLsbD 3⟩
                notices := s.link.notices.filter fun n =>
                  match n.key with
                  | .alarm _ => mask.getLsbD 0
                  | .scan => mask.getLsbD 1
                  | .motion => mask.getLsbD 2
                  | .std => mask.getLsbD 3 }).withReply 0x04 tag .ok [mask]))) ∧
    (∀ b : StdBody,
      (b.check = none → exec (.setStd tag b) s = .next (s.nextEvent.withReply 0x24 tag .invalid [])) ∧
      ∀ x, b.check = some x →
        exec (.setStd tag b) s =
          .next ((s.nextEvent.setStandardize { s.standardize with settings := x }).withReply 0x24 tag .ok [])) ∧
    (∀ b : FilterBody,
      (b.check = none → exec (.setFilter tag b) s = .next (s.nextEvent.withReply 0x27 tag .invalid [])) ∧
      ∀ x, b.check = some x →
        exec (.setFilter tag b) s =
          .next
            ((s.nextEvent.setProfile { s.profile with settings := x }).withReply 0x27 tag .ok
              (filterBody x (Config.channel4MinCount (s.link.eventNo + 1))).bytes)) ∧
    (∀ b : SheetBody,
      (b.check = none → exec (.setSheet tag b) s = .next (s.nextEvent.withReply 0x28 tag .invalid [])) ∧
      ∀ p a x, b.check = some (p, a, x) →
        exec (.setSheet tag b) s =
          .next
            (((s.nextEvent.setConversion
              { s.conversion with presenceThreshold := p, absenceThreshold := a }).setEdges
              { s.edges with settings := x }).withReply 0x28 tag .ok []))

/-- SET CURVE, SET LAYOUT and SET ZONE (R71 to R73, R103 to R107, R126, R137): INVALID out of range; STAGED in the
staging states, replacing what was staged and changing nothing in force; otherwise applied at once: a curve with the
reset of its channel's filter, and channel 4's for slot 0 and the WATER slot; a layout with a new generation, empty
accumulators, every filter reset and publication withdrawn; a zone alone. -/
def Obligations.SettingsStagedOrApplied : Prop :=
  ∀ (tag : Byte) (s : State), s.settled → s.linkFree →
    (∀ b : CurveBody, b.points.length ≤ maxCurvePoints →
      (b.check = none → exec (.setCurve tag b) s = .next (s.nextEvent.withReply 0x23 tag .invalid [])) ∧
      ∀ k x, b.check = some (k, x) →
        (s.traverse.state.staging = true →
          exec (.setCurve tag b) s =
            .next
              ((s.nextEvent.setConversion
                { s.conversion with staged := s.conversion.staged.set k (some x) }).withReply 0x23 tag .staged [])) ∧
        (s.traverse.state.staging = false →
          ∃ t, exec (.setCurve tag b) s = .next t ∧ t.replied 0x23 tag .ok [] ∧
            t.conversion =
              { s.conversion with
                curves := s.conversion.curves.set k (some x), staged := s.conversion.staged.set k none } ∧
            t.profile = { s.profile with filters := t.profile.filters } ∧
            (∀ c : Fin 5,
              t.profile.filters[c] =
                if c.val = k.val ∨ c = 4 ∧ (k = 0 ∨ s.headLink.slots[k].kind = .water) then ChannelFilter.cold
                else s.profile.filters[c]) ∧
            ChangesOnly [.conversion, .profile, .answers] s.nextEvent t)) ∧
    (∀ b : LayoutBody,
      (b.check = none → exec (.setLayout tag b) s = .next (s.nextEvent.withReply 0x25 tag .invalid [])) ∧
      ∀ x, b.check = some x →
        (s.traverse.state.staging = true →
          exec (.setLayout tag b) s =
            .next ((s.nextEvent.setBoxes { s.boxes with stagedLayout := some x }).withReply 0x25 tag .staged [])) ∧
        (s.traverse.state.staging = false →
          exec (.setLayout tag b) s =
            .next
              (((s.nextEvent.setBoxes
                { s.boxes with
                  layout := some x, stagedLayout := none, generation := s.boxes.generation + 1
                  accumulators := Vector.replicate 4 [] }).setProfile
                { s.profile with
                  filters := Vector.replicate 5 ChannelFilter.cold, published := none, waiting := none }).withReply
                0x25 tag .ok []))) ∧
    (∀ b : ZoneBody,
      (b.check = none → exec (.setZone tag b) s = .next (s.nextEvent.withReply 0x26 tag .invalid [])) ∧
      ∀ z x, b.check = some (z, x) →
        (s.traverse.state.staging = true →
          exec (.setZone tag b) s =
            .next
              ((s.nextEvent.setBoxes { s.boxes with stagedZones := s.boxes.stagedZones.set z (some x) }).withReply
                0x26 tag .staged [])) ∧
        (s.traverse.state.staging = false →
          exec (.setZone tag b) s =
            .next
              ((s.nextEvent.setBoxes
                { s.boxes with
                  zones := s.boxes.zones.set z x, stagedZones := s.boxes.stagedZones.set z none }).withReply
                0x26 tag .ok []))) ∧
    (s.traverse.state.staging = true ↔
      s.traverse.state = .traversing ∨ s.traverse.state = .reversing ∨ s.traverse.state = .standardizing .ret ∨
      (∃ p ph, s.traverse.state = .positioning ⟨.toStd .ret, p, ph⟩) ∨
      ∃ d p ph, s.traverse.state = .positioning ⟨.toTurn d true, p, ph⟩)

/-- SET FRAME, SET LINK, SET SLOT and SET WATCH (R9, R11, R15, R47, R48, R49, R57, R61, R62, R80): the first three are
STATE outside UNREFERENCED, PARKED and HALTED; a body out of range is INVALID; otherwise OK and in force. A frame that
moves home_position or enc_dir, or is the first, discards the reference, which a MOTION notice tells from PARKED (R17);
a new sample period empties the position history and the link states; a slot whose window or enable changes starts its
link state anew; a watch is re-evaluated. That a changed slot settles no outcome at the closing sync (log entry 23),
that a new period settles none at its first sync (log entry 24) and that a new enable or period leaves no last outcome
(log entry 35) is the model's reading. -/
def Obligations.LinkAndFrameSettings : Prop :=
  ∀ (tag : Byte) (s : State), s.settled → s.linkFree →
    let rests := s.traverse.state.settable
    (rests = false → ∀ (f : FrameBody) (p : Word16) (x : SlotBody),
      exec (.setFrame tag f) s = .next (s.nextEvent.withReply 0x20 tag .state []) ∧
      exec (.setLink tag p) s = .next (s.nextEvent.withReply 0x21 tag .state []) ∧
      exec (.setSlot tag x) s = .next (s.nextEvent.withReply 0x22 tag .state [])) ∧
    (rests = true →
      (∀ b : FrameBody,
        (b.check = none → exec (.setFrame tag b) s = .next (s.nextEvent.withReply 0x20 tag .invalid [])) ∧
        ∀ f, b.check = some f →
          let keeps : Prop :=
            f.homePosition = s.position.frame.homePosition ∧ f.encDir = s.position.frame.encDir ∧
              s.position.configured = true
          (keeps ∨ s.position.reference = .unknown →
            exec (.setFrame tag b) s =
              .next
                ((s.nextEvent.setPosition { s.position with frame := f, configured := true }).withReply 0x20 tag .ok
                  [])) ∧
          (¬keeps → s.position.reference ≠ .unknown →
            ∃ t, exec (.setFrame tag b) s = .next t ∧ t.replied 0x20 tag .ok [] ∧
              t.position = { s.position with frame := f, configured := true, reference := .unknown } ∧
              (∀ c, s.traverse.state = .parked c → t.traverse.state = .unreferenced) ∧
              ((∀ c, s.traverse.state ≠ .parked c) → t.traverse = s.traverse) ∧ MotionNoticed s t ∧
              ChangesOnly [.position, .traverse, .edges, .alarms, .notices, .answers] s.nextEvent t)) ∧
      (∀ p : Word16,
        (¬(∃ x, readPeriod p = some x ∧ s.windowsFit x = true) →
          exec (.setLink tag p) s = .next (s.nextEvent.withReply 0x21 tag .invalid [])) ∧
        ∀ x, readPeriod p = some x → s.windowsFit x = true →
          (x = s.headLink.period → exec (.setLink tag p) s = .next (s.nextEvent.withReply 0x21 tag .ok [])) ∧
          (x ≠ s.headLink.period →
            ∃ t, exec (.setLink tag p) s = .next t ∧ t.replied 0x21 tag .ok [] ∧
              t.position = { s.position with history := [] } ∧
              t.headLink =
                { s.headLink with
                  period := x, reception := none, links := Vector.replicate 4 SlotLink.cold
                  faultSlots := t.headLink.faultSlots } ∧
              ((∀ k : Fin 4, 1 ≤ s.headLink.slots[k].errorLimit) → t.headLink.faultSlots = 0) ∧
              ChangesOnly (.headLink :: .answers :: motionParts) s.nextEvent t)) ∧
      (∀ b : SlotBody,
        (¬(∃ k c, b.check = some (k, c) ∧ s.slotFits k c = true) →
          exec (.setSlot tag b) s = .next (s.nextEvent.withReply 0x22 tag .invalid [])) ∧
        ∀ (k : Fin 4) (c : SlotConfig), b.check = some (k, c) → s.slotFits k c = true →
          let old := s.headLink.slots[k]
          let l := s.headLink.links[k]
          ∃ t, exec (.setSlot tag b) s = .next t ∧ t.replied 0x22 tag .ok [] ∧
            t.headLink.slots = s.headLink.slots.set k c ∧
            t.headLink.links[k] =
              (if old.enabled = c.enabled ∧ old.windowStart = c.windowStart ∧ old.windowLength = c.windowLength then l
               else
                { unsettled := false, badCount := 0, assembly := []
                  lastOutcome := if old.enabled = c.enabled then l.lastOutcome else none }) ∧
            (∀ j : Fin 4, j ≠ k → t.headLink.links[j] = s.headLink.links[j]) ∧
            t.headLink.faultSlots = t.headLink.faults ∧ t.headLink.trippedWatches = t.headLink.trips ∧
            t.headLink.period = s.headLink.period ∧ t.headLink.nextSeq = s.headLink.nextSeq ∧
            t.headLink.housekeeping = s.headLink.housekeeping ∧ t.headLink.watches = s.headLink.watches ∧
            t.conversion =
              { s.conversion with
                latest :=
                  if k = 0 ∧ old.enabled = true ∧ c.enabled = false then .unknown else s.conversion.latest } ∧
            ChangesOnly (.headLink :: .conversion :: .answers :: motionParts) s.nextEvent t)) ∧
    (∀ b : WatchBody,
      (b.check = none → exec (.setWatch tag b) s = .next (s.nextEvent.withReply 0x29 tag .invalid [])) ∧
      ∀ w x, b.check = some (w, x) →
        ∃ t, exec (.setWatch tag b) s = .next t ∧ t.replied 0x29 tag .ok [] ∧
          t.headLink =
            { s.headLink with
              watches := s.headLink.watches.set w x, trippedWatches := t.headLink.trippedWatches } ∧
          t.headLink.trippedWatches = t.headLink.trips ∧
          ChangesOnly (.headLink :: .answers :: motionParts) s.nextEvent t)

/-! ### Alarm requests -/

/-- SET ALARM, ACK and DRILL (R168, R171, R174, R176, R177): a source beyond 15 is INVALID, and so is a reaction
byte beyond its four bits, one that lacks a fixed HALT or one that gives LINE_CHECK the LINE. SET ALARM replaces the
set, and removing LINE clears the mark; ACK moves LATCHED to CLEAR and ACTIVE to ACTIVE_ACKED, of one source or of
ALL; DRILL is an occurrence with the drill flag and no detail, its claims taken like any other's. What moves is told in
notices (R17, R172), with the details of log entries 34 and 47. The entry of
LINE_CHECK, which follows ALARM_OUT, is told apart. That a byte with a bit beyond the four is INVALID is the model's
choice (log entry 26). -/
def Obligations.AlarmRequestsTaken : Prop :=
  ∀ (tag : Byte) (s : State), s.settled → s.linkFree →
    let acked (a : AlarmState) : AlarmState :=
      match a with
      | .latched => .clear
      | .active => .activeAcked
      | x => x
    let mayNot (i : Fin 16) (r : Byte) : Prop :=
      (i ∈ [srcDriveFault, srcStall, srcLimit, srcEncoder, srcMoveTimeout] ∧ r.getLsbD 2 = false) ∨
        (i = srcLineCheck ∧ r.getLsbD 3 = true)
    (∀ source r : Byte,
      (16 ≤ source.toNat ∨ 16 ≤ r.toNat ∨ (∃ i : Fin 16, source.toNat = i ∧ mayNot i r) →
        exec (.setAlarm tag source r) s = .next (s.nextEvent.withReply 0x2A tag .invalid [])) ∧
      ∀ i : Fin 16, source.toNat = i → r.toNat < 16 → ¬mayNot i r →
        ∃ t, exec (.setAlarm tag source r) s = .next t ∧ t.replied 0x2A tag .ok [source, r] ∧
          t.alarms.sets =
            s.alarms.sets.set i ⟨r.getLsbD 0, r.getLsbD 1, r.getLsbD 2, r.getLsbD 3⟩ ∧
          t.alarms.entries[i].lineMark = (s.alarms.entries[i].lineMark && r.getLsbD 3) ∧
          (∀ j : Fin 16, j ≠ srcLineCheck →
            t.alarms.entries[j].state = s.alarms.entries[j].state ∧
            t.alarms.entries[j].count = s.alarms.entries[j].count ∧
            t.alarms.entries[j].episode = s.alarms.entries[j].episode ∧
            (j ≠ i → t.alarms.entries[j].lineMark = s.alarms.entries[j].lineMark)) ∧
          (AlarmLaw s → t.alarms.alarmOut = t.alarms.anyMark) ∧
          ChangesOnly [.alarms, .notices, .answers] s.nextEvent t) ∧
    (∀ source : Byte, 16 ≤ source.toNat →
      (source ≠ 255 → exec (.ack tag source) s = .next (s.nextEvent.withReply 0x38 tag .invalid [])) ∧
      exec (.drill tag source) s = .next (s.nextEvent.withReply 0x39 tag .invalid [])) ∧
    (∀ (source : Byte) (i : Fin 16), source.toNat = i →
      i ≠ srcLineCheck ∨ AlarmLaw s ∧ s.alarms.entries[srcLineCheck].lineMark = false →
      ∃ t, exec (.ack tag source) s = .next t ∧
        t.replied 0x38 tag .ok [BitVec.ofNat 8 (acked s.alarms.entries[i].state).code] ∧
        t.alarms.entries[i].state = acked s.alarms.entries[i].state ∧
        t.alarms.entries[i].count = s.alarms.entries[i].count ∧
        t.alarms.entries[i].episode = s.alarms.entries[i].episode ∧
        (∀ j : Fin 16, j ≠ i → j ≠ srcLineCheck → t.alarms.entries[j] = s.alarms.entries[j]) ∧
        ChangeReported i s t ∧ t.alarms.sets = s.alarms.sets ∧ ChangesOnly [.alarms, .notices, .answers] s.nextEvent t) ∧
    (∃ t, exec (.ack tag 255) s = .next t ∧
      t.replied 0x38 tag .ok
        ((List.finRange 16).map fun (i : Fin 16) => BitVec.ofNat 8 t.alarms.entries[i].state.code) ∧
      (∀ i : Fin 16, i ≠ srcLineCheck →
        t.alarms.entries[i].state = acked s.alarms.entries[i].state ∧
        t.alarms.entries[i].count = s.alarms.entries[i].count ∧
        t.alarms.entries[i].episode = s.alarms.entries[i].episode) ∧
      (∀ i : Fin 16, ChangeReported i s t) ∧ t.alarms.sets = s.alarms.sets ∧ ChangesOnly [.alarms, .notices, .answers] s.nextEvent t) ∧
    ∀ (source : Byte) (i : Fin 16), source.toNat = i →
      let after : AlarmState := if s.alarms.entries[i].state = .clear then .latched else s.alarms.entries[i].state
      ∃ t, exec (.drill tag source) s = .next t ∧ t.replied 0x39 tag .ok [BitVec.ofNat 8 after.code] ∧
        Occurred i none true s t ∧ HaltedBy i s t ∧ t.alarms.sets = s.alarms.sets ∧
        ChangesOnly (.answers :: motionParts) s.nextEvent t
end

