-- ==== Sys2Proof/Laws/State.lean ====
section
/-! SUPPORT. One lemma per block and per setter: a setter gives its own block and leaves every other. With
them no proof unfolds a setter. -/

namespace Sys2Proof.Machine

variable (s : State)

@[simp] theorem State.setPosition_position (x : PositionUnit) : (s.setPosition x).position = x := rfl
@[simp] theorem State.setPosition_traverse (x : PositionUnit) : (s.setPosition x).traverse = s.traverse := rfl
@[simp] theorem State.setPosition_headLink (x : PositionUnit) : (s.setPosition x).headLink = s.headLink := rfl
@[simp] theorem State.setPosition_conversion (x : PositionUnit) : (s.setPosition x).conversion = s.conversion := rfl
@[simp] theorem State.setPosition_standardize (x : PositionUnit) : (s.setPosition x).standardize = s.standardize := rfl
@[simp] theorem State.setPosition_boxes (x : PositionUnit) : (s.setPosition x).boxes = s.boxes := rfl
@[simp] theorem State.setPosition_profile (x : PositionUnit) : (s.setPosition x).profile = s.profile := rfl
@[simp] theorem State.setPosition_edges (x : PositionUnit) : (s.setPosition x).edges = s.edges := rfl
@[simp] theorem State.setPosition_point (x : PositionUnit) : (s.setPosition x).point = s.point := rfl
@[simp] theorem State.setPosition_alarms (x : PositionUnit) : (s.setPosition x).alarms = s.alarms := rfl
@[simp] theorem State.setPosition_link (x : PositionUnit) : (s.setPosition x).link = s.link := rfl
@[simp] theorem State.setPosition_pending (x : PositionUnit) : (s.setPosition x).pending = s.pending := rfl
@[simp] theorem State.setPosition_setPosition (x y : PositionUnit) : (s.setPosition x).setPosition y = s.setPosition y := rfl
@[simp] theorem State.setPosition_self : s.setPosition s.position = s := rfl

@[simp] theorem State.setTraverse_position (x : Traverse) : (s.setTraverse x).position = s.position := rfl
@[simp] theorem State.setTraverse_traverse (x : Traverse) : (s.setTraverse x).traverse = x := rfl
@[simp] theorem State.setTraverse_headLink (x : Traverse) : (s.setTraverse x).headLink = s.headLink := rfl
@[simp] theorem State.setTraverse_conversion (x : Traverse) : (s.setTraverse x).conversion = s.conversion := rfl
@[simp] theorem State.setTraverse_standardize (x : Traverse) : (s.setTraverse x).standardize = s.standardize := rfl
@[simp] theorem State.setTraverse_boxes (x : Traverse) : (s.setTraverse x).boxes = s.boxes := rfl
@[simp] theorem State.setTraverse_profile (x : Traverse) : (s.setTraverse x).profile = s.profile := rfl
@[simp] theorem State.setTraverse_edges (x : Traverse) : (s.setTraverse x).edges = s.edges := rfl
@[simp] theorem State.setTraverse_point (x : Traverse) : (s.setTraverse x).point = s.point := rfl
@[simp] theorem State.setTraverse_alarms (x : Traverse) : (s.setTraverse x).alarms = s.alarms := rfl
@[simp] theorem State.setTraverse_link (x : Traverse) : (s.setTraverse x).link = s.link := rfl
@[simp] theorem State.setTraverse_pending (x : Traverse) : (s.setTraverse x).pending = s.pending := rfl
@[simp] theorem State.setTraverse_setTraverse (x y : Traverse) : (s.setTraverse x).setTraverse y = s.setTraverse y := rfl
@[simp] theorem State.setTraverse_self : s.setTraverse s.traverse = s := rfl

@[simp] theorem State.setHeadLink_position (x : HeadLink) : (s.setHeadLink x).position = s.position := rfl
@[simp] theorem State.setHeadLink_traverse (x : HeadLink) : (s.setHeadLink x).traverse = s.traverse := rfl
@[simp] theorem State.setHeadLink_headLink (x : HeadLink) : (s.setHeadLink x).headLink = x := rfl
@[simp] theorem State.setHeadLink_conversion (x : HeadLink) : (s.setHeadLink x).conversion = s.conversion := rfl
@[simp] theorem State.setHeadLink_standardize (x : HeadLink) : (s.setHeadLink x).standardize = s.standardize := rfl
@[simp] theorem State.setHeadLink_boxes (x : HeadLink) : (s.setHeadLink x).boxes = s.boxes := rfl
@[simp] theorem State.setHeadLink_profile (x : HeadLink) : (s.setHeadLink x).profile = s.profile := rfl
@[simp] theorem State.setHeadLink_edges (x : HeadLink) : (s.setHeadLink x).edges = s.edges := rfl
@[simp] theorem State.setHeadLink_point (x : HeadLink) : (s.setHeadLink x).point = s.point := rfl
@[simp] theorem State.setHeadLink_alarms (x : HeadLink) : (s.setHeadLink x).alarms = s.alarms := rfl
@[simp] theorem State.setHeadLink_link (x : HeadLink) : (s.setHeadLink x).link = s.link := rfl
@[simp] theorem State.setHeadLink_pending (x : HeadLink) : (s.setHeadLink x).pending = s.pending := rfl
@[simp] theorem State.setHeadLink_setHeadLink (x y : HeadLink) : (s.setHeadLink x).setHeadLink y = s.setHeadLink y := rfl
@[simp] theorem State.setHeadLink_self : s.setHeadLink s.headLink = s := rfl

@[simp] theorem State.setConversion_position (x : Conversion) : (s.setConversion x).position = s.position := rfl
@[simp] theorem State.setConversion_traverse (x : Conversion) : (s.setConversion x).traverse = s.traverse := rfl
@[simp] theorem State.setConversion_headLink (x : Conversion) : (s.setConversion x).headLink = s.headLink := rfl
@[simp] theorem State.setConversion_conversion (x : Conversion) : (s.setConversion x).conversion = x := rfl
@[simp] theorem State.setConversion_standardize (x : Conversion) : (s.setConversion x).standardize = s.standardize := rfl
@[simp] theorem State.setConversion_boxes (x : Conversion) : (s.setConversion x).boxes = s.boxes := rfl
@[simp] theorem State.setConversion_profile (x : Conversion) : (s.setConversion x).profile = s.profile := rfl
@[simp] theorem State.setConversion_edges (x : Conversion) : (s.setConversion x).edges = s.edges := rfl
@[simp] theorem State.setConversion_point (x : Conversion) : (s.setConversion x).point = s.point := rfl
@[simp] theorem State.setConversion_alarms (x : Conversion) : (s.setConversion x).alarms = s.alarms := rfl
@[simp] theorem State.setConversion_link (x : Conversion) : (s.setConversion x).link = s.link := rfl
@[simp] theorem State.setConversion_pending (x : Conversion) : (s.setConversion x).pending = s.pending := rfl
@[simp] theorem State.setConversion_setConversion (x y : Conversion) : (s.setConversion x).setConversion y = s.setConversion y := rfl
@[simp] theorem State.setConversion_self : s.setConversion s.conversion = s := rfl

@[simp] theorem State.setStandardize_position (x : Standardize) : (s.setStandardize x).position = s.position := rfl
@[simp] theorem State.setStandardize_traverse (x : Standardize) : (s.setStandardize x).traverse = s.traverse := rfl
@[simp] theorem State.setStandardize_headLink (x : Standardize) : (s.setStandardize x).headLink = s.headLink := rfl
@[simp] theorem State.setStandardize_conversion (x : Standardize) : (s.setStandardize x).conversion = s.conversion := rfl
@[simp] theorem State.setStandardize_standardize (x : Standardize) : (s.setStandardize x).standardize = x := rfl
@[simp] theorem State.setStandardize_boxes (x : Standardize) : (s.setStandardize x).boxes = s.boxes := rfl
@[simp] theorem State.setStandardize_profile (x : Standardize) : (s.setStandardize x).profile = s.profile := rfl
@[simp] theorem State.setStandardize_edges (x : Standardize) : (s.setStandardize x).edges = s.edges := rfl
@[simp] theorem State.setStandardize_point (x : Standardize) : (s.setStandardize x).point = s.point := rfl
@[simp] theorem State.setStandardize_alarms (x : Standardize) : (s.setStandardize x).alarms = s.alarms := rfl
@[simp] theorem State.setStandardize_link (x : Standardize) : (s.setStandardize x).link = s.link := rfl
@[simp] theorem State.setStandardize_pending (x : Standardize) : (s.setStandardize x).pending = s.pending := rfl
@[simp] theorem State.setStandardize_setStandardize (x y : Standardize) : (s.setStandardize x).setStandardize y = s.setStandardize y := rfl
@[simp] theorem State.setStandardize_self : s.setStandardize s.standardize = s := rfl

@[simp] theorem State.setBoxes_position (x : BoxAccumulator) : (s.setBoxes x).position = s.position := rfl
@[simp] theorem State.setBoxes_traverse (x : BoxAccumulator) : (s.setBoxes x).traverse = s.traverse := rfl
@[simp] theorem State.setBoxes_headLink (x : BoxAccumulator) : (s.setBoxes x).headLink = s.headLink := rfl
@[simp] theorem State.setBoxes_conversion (x : BoxAccumulator) : (s.setBoxes x).conversion = s.conversion := rfl
@[simp] theorem State.setBoxes_standardize (x : BoxAccumulator) : (s.setBoxes x).standardize = s.standardize := rfl
@[simp] theorem State.setBoxes_boxes (x : BoxAccumulator) : (s.setBoxes x).boxes = x := rfl
@[simp] theorem State.setBoxes_profile (x : BoxAccumulator) : (s.setBoxes x).profile = s.profile := rfl
@[simp] theorem State.setBoxes_edges (x : BoxAccumulator) : (s.setBoxes x).edges = s.edges := rfl
@[simp] theorem State.setBoxes_point (x : BoxAccumulator) : (s.setBoxes x).point = s.point := rfl
@[simp] theorem State.setBoxes_alarms (x : BoxAccumulator) : (s.setBoxes x).alarms = s.alarms := rfl
@[simp] theorem State.setBoxes_link (x : BoxAccumulator) : (s.setBoxes x).link = s.link := rfl
@[simp] theorem State.setBoxes_pending (x : BoxAccumulator) : (s.setBoxes x).pending = s.pending := rfl
@[simp] theorem State.setBoxes_setBoxes (x y : BoxAccumulator) : (s.setBoxes x).setBoxes y = s.setBoxes y := rfl
@[simp] theorem State.setBoxes_self : s.setBoxes s.boxes = s := rfl

@[simp] theorem State.setProfile_position (x : ProfileUnit) : (s.setProfile x).position = s.position := rfl
@[simp] theorem State.setProfile_traverse (x : ProfileUnit) : (s.setProfile x).traverse = s.traverse := rfl
@[simp] theorem State.setProfile_headLink (x : ProfileUnit) : (s.setProfile x).headLink = s.headLink := rfl
@[simp] theorem State.setProfile_conversion (x : ProfileUnit) : (s.setProfile x).conversion = s.conversion := rfl
@[simp] theorem State.setProfile_standardize (x : ProfileUnit) : (s.setProfile x).standardize = s.standardize := rfl
@[simp] theorem State.setProfile_boxes (x : ProfileUnit) : (s.setProfile x).boxes = s.boxes := rfl
@[simp] theorem State.setProfile_profile (x : ProfileUnit) : (s.setProfile x).profile = x := rfl
@[simp] theorem State.setProfile_edges (x : ProfileUnit) : (s.setProfile x).edges = s.edges := rfl
@[simp] theorem State.setProfile_point (x : ProfileUnit) : (s.setProfile x).point = s.point := rfl
@[simp] theorem State.setProfile_alarms (x : ProfileUnit) : (s.setProfile x).alarms = s.alarms := rfl
@[simp] theorem State.setProfile_link (x : ProfileUnit) : (s.setProfile x).link = s.link := rfl
@[simp] theorem State.setProfile_pending (x : ProfileUnit) : (s.setProfile x).pending = s.pending := rfl
@[simp] theorem State.setProfile_setProfile (x y : ProfileUnit) : (s.setProfile x).setProfile y = s.setProfile y := rfl
@[simp] theorem State.setProfile_self : s.setProfile s.profile = s := rfl

@[simp] theorem State.setEdges_position (x : EdgeMonitor) : (s.setEdges x).position = s.position := rfl
@[simp] theorem State.setEdges_traverse (x : EdgeMonitor) : (s.setEdges x).traverse = s.traverse := rfl
@[simp] theorem State.setEdges_headLink (x : EdgeMonitor) : (s.setEdges x).headLink = s.headLink := rfl
@[simp] theorem State.setEdges_conversion (x : EdgeMonitor) : (s.setEdges x).conversion = s.conversion := rfl
@[simp] theorem State.setEdges_standardize (x : EdgeMonitor) : (s.setEdges x).standardize = s.standardize := rfl
@[simp] theorem State.setEdges_boxes (x : EdgeMonitor) : (s.setEdges x).boxes = s.boxes := rfl
@[simp] theorem State.setEdges_profile (x : EdgeMonitor) : (s.setEdges x).profile = s.profile := rfl
@[simp] theorem State.setEdges_edges (x : EdgeMonitor) : (s.setEdges x).edges = x := rfl
@[simp] theorem State.setEdges_point (x : EdgeMonitor) : (s.setEdges x).point = s.point := rfl
@[simp] theorem State.setEdges_alarms (x : EdgeMonitor) : (s.setEdges x).alarms = s.alarms := rfl
@[simp] theorem State.setEdges_link (x : EdgeMonitor) : (s.setEdges x).link = s.link := rfl
@[simp] theorem State.setEdges_pending (x : EdgeMonitor) : (s.setEdges x).pending = s.pending := rfl
@[simp] theorem State.setEdges_setEdges (x y : EdgeMonitor) : (s.setEdges x).setEdges y = s.setEdges y := rfl
@[simp] theorem State.setEdges_self : s.setEdges s.edges = s := rfl

@[simp] theorem State.setPoint_position (x : PointRecorder) : (s.setPoint x).position = s.position := rfl
@[simp] theorem State.setPoint_traverse (x : PointRecorder) : (s.setPoint x).traverse = s.traverse := rfl
@[simp] theorem State.setPoint_headLink (x : PointRecorder) : (s.setPoint x).headLink = s.headLink := rfl
@[simp] theorem State.setPoint_conversion (x : PointRecorder) : (s.setPoint x).conversion = s.conversion := rfl
@[simp] theorem State.setPoint_standardize (x : PointRecorder) : (s.setPoint x).standardize = s.standardize := rfl
@[simp] theorem State.setPoint_boxes (x : PointRecorder) : (s.setPoint x).boxes = s.boxes := rfl
@[simp] theorem State.setPoint_profile (x : PointRecorder) : (s.setPoint x).profile = s.profile := rfl
@[simp] theorem State.setPoint_edges (x : PointRecorder) : (s.setPoint x).edges = s.edges := rfl
@[simp] theorem State.setPoint_point (x : PointRecorder) : (s.setPoint x).point = x := rfl
@[simp] theorem State.setPoint_alarms (x : PointRecorder) : (s.setPoint x).alarms = s.alarms := rfl
@[simp] theorem State.setPoint_link (x : PointRecorder) : (s.setPoint x).link = s.link := rfl
@[simp] theorem State.setPoint_pending (x : PointRecorder) : (s.setPoint x).pending = s.pending := rfl
@[simp] theorem State.setPoint_setPoint (x y : PointRecorder) : (s.setPoint x).setPoint y = s.setPoint y := rfl
@[simp] theorem State.setPoint_self : s.setPoint s.point = s := rfl

@[simp] theorem State.setAlarms_position (x : AlarmUnit) : (s.setAlarms x).position = s.position := rfl
@[simp] theorem State.setAlarms_traverse (x : AlarmUnit) : (s.setAlarms x).traverse = s.traverse := rfl
@[simp] theorem State.setAlarms_headLink (x : AlarmUnit) : (s.setAlarms x).headLink = s.headLink := rfl
@[simp] theorem State.setAlarms_conversion (x : AlarmUnit) : (s.setAlarms x).conversion = s.conversion := rfl
@[simp] theorem State.setAlarms_standardize (x : AlarmUnit) : (s.setAlarms x).standardize = s.standardize := rfl
@[simp] theorem State.setAlarms_boxes (x : AlarmUnit) : (s.setAlarms x).boxes = s.boxes := rfl
@[simp] theorem State.setAlarms_profile (x : AlarmUnit) : (s.setAlarms x).profile = s.profile := rfl
@[simp] theorem State.setAlarms_edges (x : AlarmUnit) : (s.setAlarms x).edges = s.edges := rfl
@[simp] theorem State.setAlarms_point (x : AlarmUnit) : (s.setAlarms x).point = s.point := rfl
@[simp] theorem State.setAlarms_alarms (x : AlarmUnit) : (s.setAlarms x).alarms = x := rfl
@[simp] theorem State.setAlarms_link (x : AlarmUnit) : (s.setAlarms x).link = s.link := rfl
@[simp] theorem State.setAlarms_pending (x : AlarmUnit) : (s.setAlarms x).pending = s.pending := rfl
@[simp] theorem State.setAlarms_setAlarms (x y : AlarmUnit) : (s.setAlarms x).setAlarms y = s.setAlarms y := rfl
@[simp] theorem State.setAlarms_self : s.setAlarms s.alarms = s := rfl

@[simp] theorem State.setLink_position (x : LinkController) : (s.setLink x).position = s.position := rfl
@[simp] theorem State.setLink_traverse (x : LinkController) : (s.setLink x).traverse = s.traverse := rfl
@[simp] theorem State.setLink_headLink (x : LinkController) : (s.setLink x).headLink = s.headLink := rfl
@[simp] theorem State.setLink_conversion (x : LinkController) : (s.setLink x).conversion = s.conversion := rfl
@[simp] theorem State.setLink_standardize (x : LinkController) : (s.setLink x).standardize = s.standardize := rfl
@[simp] theorem State.setLink_boxes (x : LinkController) : (s.setLink x).boxes = s.boxes := rfl
@[simp] theorem State.setLink_profile (x : LinkController) : (s.setLink x).profile = s.profile := rfl
@[simp] theorem State.setLink_edges (x : LinkController) : (s.setLink x).edges = s.edges := rfl
@[simp] theorem State.setLink_point (x : LinkController) : (s.setLink x).point = s.point := rfl
@[simp] theorem State.setLink_alarms (x : LinkController) : (s.setLink x).alarms = s.alarms := rfl
@[simp] theorem State.setLink_link (x : LinkController) : (s.setLink x).link = x := rfl
@[simp] theorem State.setLink_pending (x : LinkController) : (s.setLink x).pending = s.pending := rfl
@[simp] theorem State.setLink_setLink (x y : LinkController) : (s.setLink x).setLink y = s.setLink y := rfl
@[simp] theorem State.setLink_self : s.setLink s.link = s := rfl

/-! The number of the event. -/

@[simp] theorem State.nextEvent_position : s.nextEvent.position = s.position := rfl
@[simp] theorem State.nextEvent_traverse : s.nextEvent.traverse = s.traverse := rfl
@[simp] theorem State.nextEvent_headLink : s.nextEvent.headLink = s.headLink := rfl
@[simp] theorem State.nextEvent_conversion : s.nextEvent.conversion = s.conversion := rfl
@[simp] theorem State.nextEvent_standardize : s.nextEvent.standardize = s.standardize := rfl
@[simp] theorem State.nextEvent_boxes : s.nextEvent.boxes = s.boxes := rfl
@[simp] theorem State.nextEvent_profile : s.nextEvent.profile = s.profile := rfl
@[simp] theorem State.nextEvent_edges : s.nextEvent.edges = s.edges := rfl
@[simp] theorem State.nextEvent_point : s.nextEvent.point = s.point := rfl
@[simp] theorem State.nextEvent_alarms : s.nextEvent.alarms = s.alarms := rfl
@[simp] theorem State.nextEvent_pending : s.nextEvent.pending = s.pending := rfl
theorem State.nextEvent_link : s.nextEvent.link = { s.link with eventNo := s.link.eventNo + 1 } := rfl
@[simp] theorem State.nextEvent_link_baud1 : s.nextEvent.link.baud1 = s.link.baud1 := rfl
@[simp] theorem State.nextEvent_link_baud0 : s.nextEvent.link.baud0 = s.link.baud0 := rfl
@[simp] theorem State.nextEvent_link_rx : s.nextEvent.link.rx = s.link.rx := rfl
@[simp] theorem State.nextEvent_link_queue : s.nextEvent.link.queue = s.link.queue := rfl
@[simp] theorem State.nextEvent_link_slot : s.nextEvent.link.slot = s.link.slot := rfl
@[simp] theorem State.nextEvent_link_refusal : s.nextEvent.link.refusal = s.link.refusal := rfl
@[simp] theorem State.nextEvent_link_readout : s.nextEvent.link.readout = s.link.readout := rfl
@[simp] theorem State.nextEvent_link_notices : s.nextEvent.link.notices = s.link.notices := rfl
@[simp] theorem State.nextEvent_link_mask : s.nextEvent.link.mask = s.link.mask := rfl
@[simp] theorem State.nextEvent_link_lastError : s.nextEvent.link.lastError = s.link.lastError := rfl
@[simp] theorem State.nextEvent_link_uptime : s.nextEvent.link.uptime = s.link.uptime := rfl
@[simp] theorem State.nextEvent_link_startCause : s.nextEvent.link.startCause = s.link.startCause := rfl
@[simp] theorem State.nextEvent_link_transmitting : s.nextEvent.link.transmitting = s.link.transmitting := rfl
@[simp] theorem State.nextEvent_link_eventNo : s.nextEvent.link.eventNo = s.link.eventNo + 1 := rfl

end Sys2Proof.Machine
end

