-- ==== Sys2Proof/Laws/Frames.lean ====
section
/-! SUPPORT. What the shared operations change: one `ChangesOnly` lemma for each, and the rules by which such
frames are put together. A proof about a command cites these and unfolds no operation. -/

namespace Sys2Proof.Machine

variable {a b : List Part} {s t u : State}

/-! ### Frames put together -/

theorem ChangesOnly.refl (parts : List Part) (s : State) : ChangesOnly parts s s :=
  ⟨fun p _ => by cases p <;> simp [Part.same], rfl⟩

theorem Part.same_trans (p : Part) (h : p.same s t) (g : p.same t u) : p.same s u := by
  cases p
  case answers => exact ⟨g.1.trans h.1, g.2.1.trans h.2.1, g.2.2.trans h.2.2⟩
  case line =>
    simp only [Part.same] at h g
    rw [h] at g
    exact g
  all_goals exact Eq.trans g h

theorem ChangesOnly.trans (h : ChangesOnly a s t) (g : ChangesOnly b t u) : ChangesOnly (a ++ b) s u :=
  ⟨fun p hp => by
    simp only [List.mem_append, not_or] at hp
    exact p.same_trans (h.1 p hp.1) (g.1 p hp.2), g.2.trans h.2⟩

theorem ChangesOnly.mono (h : ChangesOnly a s t) (sub : a ⊆ b) : ChangesOnly b s t :=
  ⟨fun p hp => h.1 p fun hq => hp (sub hq), h.2⟩

theorem ChangesOnly.then (h : ChangesOnly a s t) (g : ChangesOnly a t u) : ChangesOnly a s u :=
  (h.trans g).mono (by simp)

theorem ChangesOnly.ite {c : Prop} [Decidable c] (h : ChangesOnly a s t) (g : ChangesOnly a s u) :
    ChangesOnly a s (if c then t else u) := by
  split
  · exact h
  · exact g

theorem ChangesOnly.foldl {α : Type} (f : State → α → State) (hf : ∀ s x, ChangesOnly a s (f s x)) (xs : List α)
    (s : State) : ChangesOnly a s (xs.foldl f s) := by
  induction xs generalizing s with
  | nil => exact .refl _ _
  | cons x xs ih => exact (hf s x).then (ih _)

/-- What a frame says of each block. -/
theorem ChangesOnly.position (h : ChangesOnly a s t) (p : Part.position ∉ a) : t.position = s.position := h.1 _ p
theorem ChangesOnly.traverse (h : ChangesOnly a s t) (p : Part.traverse ∉ a) : t.traverse = s.traverse := h.1 _ p
theorem ChangesOnly.headLink (h : ChangesOnly a s t) (p : Part.headLink ∉ a) : t.headLink = s.headLink := h.1 _ p
theorem ChangesOnly.conversion (h : ChangesOnly a s t) (p : Part.conversion ∉ a) : t.conversion = s.conversion :=
  h.1 _ p
theorem ChangesOnly.standardize (h : ChangesOnly a s t) (p : Part.standardize ∉ a) :
    t.standardize = s.standardize := h.1 _ p
theorem ChangesOnly.boxes (h : ChangesOnly a s t) (p : Part.boxes ∉ a) : t.boxes = s.boxes := h.1 _ p
theorem ChangesOnly.profile (h : ChangesOnly a s t) (p : Part.profile ∉ a) : t.profile = s.profile := h.1 _ p
theorem ChangesOnly.edges (h : ChangesOnly a s t) (p : Part.edges ∉ a) : t.edges = s.edges := h.1 _ p
theorem ChangesOnly.point (h : ChangesOnly a s t) (p : Part.point ∉ a) : t.point = s.point := h.1 _ p
theorem ChangesOnly.alarms (h : ChangesOnly a s t) (p : Part.alarms ∉ a) : t.alarms = s.alarms := h.1 _ p
theorem ChangesOnly.notices (h : ChangesOnly a s t) (p : Part.notices ∉ a) : t.link.notices = s.link.notices :=
  h.1 _ p
theorem ChangesOnly.slot (h : ChangesOnly a s t) (p : Part.answers ∉ a) : t.link.slot = s.link.slot := (h.1 _ p).1
theorem ChangesOnly.readout (h : ChangesOnly a s t) (p : Part.answers ∉ a) : t.link.readout = s.link.readout :=
  (h.1 _ p).2.1
theorem ChangesOnly.lastError (h : ChangesOnly a s t) (p : Part.answers ∉ a) :
    t.link.lastError = s.link.lastError := (h.1 _ p).2.2
theorem ChangesOnly.line (h : ChangesOnly a s t) (p : Part.line ∉ a) :
    t.link =
      { s.link with
        notices := t.link.notices, slot := t.link.slot, readout := t.link.readout, lastError := t.link.lastError } :=
  h.1 _ p
theorem ChangesOnly.rx (h : ChangesOnly a s t) (p : Part.line ∉ a) : t.link.rx = s.link.rx :=
  by
  rw [h.line p]
theorem ChangesOnly.queue (h : ChangesOnly a s t) (p : Part.line ∉ a) : t.link.queue = s.link.queue :=
  by
  rw [h.line p]
theorem ChangesOnly.refusal (h : ChangesOnly a s t) (p : Part.line ∉ a) : t.link.refusal = s.link.refusal :=
  by
  rw [h.line p]
theorem ChangesOnly.mask (h : ChangesOnly a s t) (p : Part.line ∉ a) : t.link.mask = s.link.mask :=
  by
  rw [h.line p]
theorem ChangesOnly.uptime (h : ChangesOnly a s t) (p : Part.line ∉ a) : t.link.uptime = s.link.uptime :=
  by
  rw [h.line p]
theorem ChangesOnly.startCause (h : ChangesOnly a s t) (p : Part.line ∉ a) :
    t.link.startCause = s.link.startCause := by
  rw [h.line p]
theorem ChangesOnly.transmitting (h : ChangesOnly a s t) (p : Part.line ∉ a) :
    t.link.transmitting = s.link.transmitting := by
  rw [h.line p]
theorem ChangesOnly.eventNo (h : ChangesOnly a s t) (p : Part.line ∉ a) : t.link.eventNo = s.link.eventNo :=
  by
  rw [h.line p]
theorem ChangesOnly.pending (h : ChangesOnly a s t) : t.pending = s.pending := h.2

/-! ### The setters -/

theorem changes_setPosition (s : State) (x : PositionUnit) : ChangesOnly [.position] s (s.setPosition x) :=
  ⟨fun p h => by cases p <;> simp_all [Part.same], rfl⟩
theorem changes_setTraverse (s : State) (x : Traverse) : ChangesOnly [.traverse] s (s.setTraverse x) :=
  ⟨fun p h => by cases p <;> simp_all [Part.same], rfl⟩
theorem changes_setHeadLink (s : State) (x : HeadLink) : ChangesOnly [.headLink] s (s.setHeadLink x) :=
  ⟨fun p h => by cases p <;> simp_all [Part.same], rfl⟩
theorem changes_setConversion (s : State) (x : Conversion) : ChangesOnly [.conversion] s (s.setConversion x) :=
  ⟨fun p h => by cases p <;> simp_all [Part.same], rfl⟩
theorem changes_setStandardize (s : State) (x : Standardize) :
    ChangesOnly [.standardize] s (s.setStandardize x) :=
  ⟨fun p h => by cases p <;> simp_all [Part.same], rfl⟩
theorem changes_setBoxes (s : State) (x : BoxAccumulator) : ChangesOnly [.boxes] s (s.setBoxes x) :=
  ⟨fun p h => by cases p <;> simp_all [Part.same], rfl⟩
theorem changes_setProfile (s : State) (x : ProfileUnit) : ChangesOnly [.profile] s (s.setProfile x) :=
  ⟨fun p h => by cases p <;> simp_all [Part.same], rfl⟩
theorem changes_setEdges (s : State) (x : EdgeMonitor) : ChangesOnly [.edges] s (s.setEdges x) :=
  ⟨fun p h => by cases p <;> simp_all [Part.same], rfl⟩
theorem changes_setPoint (s : State) (x : PointRecorder) : ChangesOnly [.point] s (s.setPoint x) :=
  ⟨fun p h => by cases p <;> simp_all [Part.same], rfl⟩
theorem changes_setAlarms (s : State) (x : AlarmUnit) : ChangesOnly [.alarms] s (s.setAlarms x) :=
  ⟨fun p h => by cases p <;> simp_all [Part.same], rfl⟩

/-- A Link Controller that differs in its notices and answers alone. -/
theorem changes_setLink (s : State) (x : LinkController)
    (h : x = { s.link with notices := x.notices, slot := x.slot, readout := x.readout, lastError := x.lastError }) :
    ChangesOnly [.notices, .answers] s (s.setLink x) := by
  refine ⟨fun p hp => ?_, rfl⟩
  cases p
  case notices => simp at hp
  case answers => simp at hp
  case line =>
    show x = _
    exact h
  all_goals rfl

/-! ### Notices and alarms (R168 to R176, R189) -/

theorem changes_postNotice (k : NoticeKey) (body : List Byte) (s : State) :
    ChangesOnly [.notices] s (postNotice k body s) := by
  unfold postNotice
  split
  · exact ⟨fun p h => by cases p <;> simp_all [Part.same], rfl⟩
  · exact .refl _ _

theorem changes_postMotion (s : State) : ChangesOnly [.notices] s (postMotion s) := changes_postNotice ..

theorem changes_setEntry (i : Fin 16) (e : AlarmEntry) (s : State) : ChangesOnly [.alarms] s (setEntry i e s) :=
  changes_setAlarms ..

theorem changes_reportEntry (i : Fin 16) (s : State) : ChangesOnly [.notices] s (reportEntry i s) := by
  unfold reportEntry
  split
  · exact changes_postNotice ..
  · exact .refl _ _

theorem changes_changeEntry (i : Fin 16) (e : AlarmEntry) (s : State) :
    ChangesOnly [.alarms, .notices] s (changeEntry i e s) :=
  (changes_setEntry i e s).trans (changes_reportEntry i _)

theorem changes_judgeReadback (s : State) : ChangesOnly [.alarms, .notices] s (judgeReadback s) := by
  unfold judgeReadback
  simp only
  split
  · split
    · exact ((changes_setAlarms s _).trans (changes_changeEntry _ _ _)).mono (by simp)
    · split
      · exact .refl _ _
      · exact ((changes_setAlarms s _).trans (changes_changeEntry _ _ _)).mono (by simp)
  · split
    · exact (changes_setAlarms s _).mono (by simp)
    · split
      · exact .refl _ _
      · exact (changes_setAlarms s _).mono (by simp)

theorem changes_judgeLine (s : State) : ChangesOnly [.alarms, .notices] s (judgeLine s) := by
  unfold judgeLine
  split
  · exact .refl _ _
  · exact ((changes_setAlarms s _).trans (changes_judgeReadback _)).mono (by simp)

theorem changes_giveClaims (i : Fin 16) (s : State) : ChangesOnly [.alarms] s (giveClaims i s) := by
  unfold giveClaims
  simp only
  split
  · exact changes_setAlarms ..
  · split
    · exact changes_setAlarms ..
    · exact .refl _ _

theorem changes_occur (i : Fin 16) (d : Option Detail) (drill : Bool) (c r : AlarmState) (s : State) :
    ChangesOnly [.alarms, .notices] s (occur i d drill c r s) := by
  unfold occur
  simp only
  split
  · exact (((changes_changeEntry _ _ _).trans (changes_judgeLine _)).trans (changes_giveClaims _ _)).mono (by simp)
  · exact changes_changeEntry ..
  · exact changes_changeEntry ..

theorem changes_raiseEvent (i : Fin 16) (d : Detail) (s : State) :
    ChangesOnly [.alarms, .notices] s (raiseEvent i d s) := changes_occur ..

theorem changes_raiseDrill (i : Fin 16) (s : State) : ChangesOnly [.alarms, .notices] s (raiseDrill i s) :=
  changes_occur ..

theorem changes_startCondition (i : Fin 16) (d : Option Detail) (s : State) :
    ChangesOnly [.alarms, .notices] s (startCondition i d s) := by
  unfold startCondition
  split
  · exact changes_occur ..
  · exact changes_occur ..
  · exact .refl _ _

theorem changes_endCondition (i : Fin 16) (s : State) :
    ChangesOnly [.alarms, .notices] s (endCondition i s) := by
  unfold endCondition
  split
  · exact ((changes_changeEntry _ _ _).trans (changes_judgeLine _)).mono (by simp)
  · exact ((changes_changeEntry _ _ _).trans (changes_judgeLine _)).mono (by simp)
  · exact .refl _ _

theorem changes_changeDetail (i : Fin 16) (d : Detail) (s : State) :
    ChangesOnly [.alarms, .notices] s (changeDetail i d s) := by
  unfold changeDetail
  split
  · exact changes_changeEntry ..
  · exact changes_changeEntry ..
  · exact .refl _ _

theorem changes_reportSet (i : Fin 16) (old new : Byte) (s : State) :
    ChangesOnly [.alarms, .notices] s (reportSet i old new s) := by
  unfold reportSet
  split
  · exact .refl _ _
  · split
    · exact changes_endCondition ..
    · split
      · exact changes_startCondition ..
      · exact changes_changeDetail ..

theorem changes_ackSource (i : Fin 16) (s : State) : ChangesOnly [.alarms, .notices] s (ackSource i s) := by
  unfold ackSource
  split
  · exact ((changes_changeEntry _ _ _).trans (changes_judgeLine _)).mono (by simp)
  · exact ((changes_changeEntry _ _ _).trans (changes_judgeLine _)).mono (by simp)
  · exact .refl _ _

theorem changes_ackIfLatched (i : Fin 16) (s : State) : ChangesOnly [.alarms, .notices] s (ackIfLatched i s) := by
  unfold ackIfLatched
  split
  · exact changes_ackSource ..
  · exact .refl _ _

theorem changes_ackAll (s : State) : ChangesOnly [.alarms, .notices] s (ackAll s) :=
  .foldl _ (fun s i => changes_ackSource i s) _ _

/-! ### Entering a traverse state and moves (R17, R18, R23, R24) -/

theorem changes_noticeFrom (old : TravState) (s : State) : ChangesOnly [.notices] s (noticeFrom old s) := by
  unfold noticeFrom
  split
  · exact .refl _ _
  · exact changes_postMotion s

theorem changes_dropHoldoff (s : State) : ChangesOnly [.edges] s (dropHoldoff s) := by
  unfold dropHoldoff
  split
  · exact changes_setEdges ..
  · exact changes_setEdges ..
  · exact .refl _ _

theorem changes_leaveBreakPark (old : TravState) (s : State) : ChangesOnly [.edges] s (leaveBreakPark old s) := by
  unfold leaveBreakPark
  split
  · exact changes_dropHoldoff s
  · exact .refl _ _

/-- Entering a state changes the traverse, the hold-off, the DRIVE_FAULT entry and the notices. -/
theorem changes_enter (st : TravState) (h : Option Claim) (s : State) :
    ChangesOnly [.traverse, .edges, .alarms, .notices] s (enter st h s) := by
  unfold enter
  have h1 := changes_setTraverse s (s.traverse.entering st h)
  simp only
  split
  · exact ((h1.trans (changes_endCondition _ _)).trans
      ((changes_noticeFrom _ _).trans (changes_leaveBreakPark _ _))).mono (by simp)
  · exact (h1.trans ((changes_noticeFrom _ _).trans (changes_leaveBreakPark _ _))).mono (by simp)

theorem changes_relabel (st : TravState) (h : Option Claim) (s : State) :
    ChangesOnly [.traverse, .notices] s (relabel st h s) :=
  (changes_setTraverse s _).trans (changes_noticeFrom _ _)

theorem changes_beginMove (p : Purpose) (target : Int) (h : Option Claim) (s : State) :
    ChangesOnly [.traverse, .edges, .alarms, .notices] s (beginMove p target h s) :=
  ((changes_setTraverse s _).trans (changes_enter _ _ _)).mono (by simp)

theorem changes_beginPark (c : ParkCause) (h : Claim) (s : State) :
    ChangesOnly [.traverse, .edges, .alarms, .notices] s (beginPark c h s) := changes_beginMove ..

theorem changes_cancelHoming (old : TravState) (s : State) : ChangesOnly [.position] s (cancelHoming old s) := by
  unfold cancelHoming
  split
  · exact changes_setPosition ..
  · exact .refl _ _

theorem changes_endHoming (s : State) :
    ChangesOnly [.position, .traverse, .edges, .alarms, .notices] s (endHoming s) :=
  ((changes_setPosition s _).trans (changes_enter _ _ _)).mono (by simp)

/-! ### Ending what runs (R91, R131, R164) -/

theorem changes_abandonProfile (c : AbandonCause) (e : ScanEdges) (s : State) :
    ChangesOnly [.profile, .notices] s (abandonProfile c e s) := by
  unfold abandonProfile
  split
  · exact .refl _ _
  · exact (changes_setProfile s _).trans (changes_postNotice _ _ _)

theorem changes_abandonScan (c : AbandonCause) (s : State) :
    ChangesOnly [.traverse, .profile, .edges, .notices] s (abandonScan c s) :=
  (((changes_setEdges s _).trans (changes_abandonProfile _ _ _)).trans (changes_setTraverse _ _)).mono (by simp)

theorem changes_abandonCycle (s : State) : ChangesOnly [.standardize, .notices] s (abandonCycle s) := by
  unfold abandonCycle
  split
  · exact .refl _ _
  · exact (changes_setStandardize s _).trans (changes_postNotice _ _ _)

theorem changes_endDwell (c : DwellEnd) (s : State) : ChangesOnly [.point] s (endDwell c s) := by
  unfold endDwell
  split
  · exact changes_setPoint ..
  · exact .refl _ _

theorem changes_endRunning (old : TravState) (c : AbandonCause) (d : DwellEnd) (s : State) :
    ChangesOnly [.traverse, .standardize, .profile, .edges, .point, .notices] s (endRunning old c d s) := by
  unfold endRunning
  split
  · exact (changes_abandonScan _ _).mono (by simp)
  · exact (changes_abandonCycle _).mono (by simp)
  · exact (changes_endDwell _ _).mono (by simp)
  · exact .refl _ _

/-! ### Claims and reports (R32 to R34) -/

theorem changes_takeHalt (c : HaltCause) (s : State) : ChangesOnly motionParts s (takeHalt c s) := by
  unfold takeHalt
  split
  · split
    · exact .refl _ _
    · exact (changes_enter _ _ _).mono (by simp [motionParts])
  · exact ((changes_cancelHoming _ s).trans ((changes_enter _ _ _).trans (changes_endRunning _ _ _ _))).mono
      (by simp [motionParts])

theorem changes_takePark (c : ParkCause) (s : State) : ChangesOnly motionParts s (takePark c s) := by
  unfold takePark
  split
  · exact .refl _ _
  · exact .refl _ _
  · exact .refl _ _
  · exact (changes_endHoming _).mono (by simp [motionParts])
  · split
    · exact .refl _ _
    · exact (changes_beginPark _ _ _).mono (by simp [motionParts])
  · exact ((changes_beginPark _ _ s).trans (changes_endRunning _ _ _ _)).mono (by simp [motionParts])

theorem changes_takeClaims (s : State) : ChangesOnly motionParts s (takeClaims s) := by
  refine ((changes_setAlarms s _).mono (by simp [motionParts])).then (.foldl _ (fun s c => ?_) _ _)
  cases c
  · exact changes_takeHalt ..
  · exact changes_takePark ..

theorem changes_loseReference (s : State) : ChangesOnly motionParts s (loseReference s) := by
  unfold loseReference
  split
  · exact .refl _ _
  · exact .refl _ _
  · exact ((changes_cancelHoming _ s).trans ((changes_enter _ _ _).trans (changes_endRunning _ _ _ _))).mono
      (by simp [motionParts])

theorem changes_reportCapture (s : State) : ChangesOnly motionParts s (reportCapture s) := by
  unfold reportCapture
  split
  · exact (changes_beginPark _ _ _).mono (by simp [motionParts])
  · exact (changes_setPosition s _).mono (by simp [motionParts])

/-! ### Scans (R27 to R29, R110, R119, R120) -/

theorem changes_applyLayout (l : Layout) (s : State) : ChangesOnly [.boxes, .profile] s (applyLayout l s) :=
  (changes_setBoxes s _).trans (changes_setProfile _ _)

theorem changes_applyCurve (k : Fin 4) (c : Curve) (s : State) :
    ChangesOnly [.conversion, .profile] s (applyCurve k c s) :=
  (changes_setConversion s _).trans (changes_setProfile _ _)

theorem changes_applyStagedLayout (s : State) : ChangesOnly [.boxes, .profile] s (applyStagedLayout s) := by
  unfold applyStagedLayout
  split
  · exact changes_applyLayout ..
  · exact .refl _ _

theorem changes_applyStagedCurve (s : State) (k : Fin 4) :
    ChangesOnly [.conversion, .profile] s (applyStagedCurve s k) := by
  unfold applyStagedCurve
  split
  · exact changes_applyCurve ..
  · exact .refl _ _

theorem changes_startBoxes (n : Nat) (d : Dir) (s : State) : ChangesOnly [.boxes, .profile] s (startBoxes n d s) :=
  (((changes_applyStagedLayout s).trans (changes_setBoxes _ _)).trans (changes_setBoxes _ _)).mono (by simp)

theorem changes_startProfile (n : Nat) (d : Dir) (s : State) : ChangesOnly [.profile] s (startProfile n d s) :=
  changes_setProfile ..

theorem changes_startSearch (n : Nat) (d : Dir) (s : State) : ChangesOnly [.edges] s (startSearch n d s) :=
  changes_setEdges ..

theorem changes_markExpired (s : State) : ChangesOnly [.profile] s (markExpired s) := changes_setProfile ..

theorem changes_startExpired (s : State) : ChangesOnly [.profile] s (startExpired s) := by
  unfold startExpired
  split
  · exact .refl _ _
  · exact changes_markExpired s

/-- What a scan start may change. -/
def scanParts : List Part := [.traverse, .conversion, .boxes, .profile, .edges, .alarms, .notices]

theorem changes_startScan (d : Dir) (s : State) : ChangesOnly scanParts s (startScan d s) := by
  have h1 (x : Traverse) : ChangesOnly scanParts s (enter .traversing (some .scanProgram) (s.setTraverse x)) :=
    ((changes_setTraverse s x).trans (changes_enter _ _ _)).mono (by simp [scanParts])
  have h2 (u : State) : ChangesOnly scanParts u (startBoxes s.profile.nextScan d u) :=
    (changes_startBoxes _ _ u).mono (by simp [scanParts])
  have h3 (u : State) : ChangesOnly scanParts u ((List.finRange 4).foldl applyStagedCurve u) :=
    .foldl _ (fun s k => (changes_applyStagedCurve s k).mono (by simp [scanParts])) _ _
  have h4 (u : State) (n : Nat) : ChangesOnly scanParts u (startExpired (startSearch n d (startProfile n d u))) :=
    (((changes_startProfile n d u).trans (changes_startSearch _ _ _)).trans (changes_startExpired _)).mono
      (by simp [scanParts])
  exact (((h1 _).then (h2 _)).then (h3 _)).then (h4 _ _)

theorem changes_scanStart (d : Dir) (s : State) : ChangesOnly scanParts s (scanStart d s) := by
  unfold scanStart
  split
  · exact (changes_beginPark _ _ _).mono (by simp [scanParts])
  · split
    · exact (changes_beginPark _ _ _).mono (by simp [scanParts])
    · exact changes_startScan d s

theorem changes_flipAndStart (s : State) : ChangesOnly scanParts s (flipAndStart s) :=
  ((changes_setTraverse s _).mono (by simp [scanParts])).then (changes_scanStart _ _)

theorem changes_setEdge (h : Bool) (e : EdgeEntry) (s : State) : ChangesOnly [.edges] s (setEdge h e s) :=
  changes_setEdges ..

theorem changes_writeFound (h : Bool) (p : Int) (n : Nat) (s : State) :
    ChangesOnly [.edges, .alarms, .notices] s (writeFound h p n s) := by
  unfold writeFound
  simp only
  split
  · split
    · exact (changes_setEdge _ _ _).trans (changes_raiseEvent _ _ _)
    · exact (changes_setEdge _ _ _).mono (by simp)
  · exact (changes_setEdge _ _ _).mono (by simp)

theorem changes_writeSide (h : Bool) (f : Option Int) (b : Bool) (n : Nat) (s : State) :
    ChangesOnly [.edges, .alarms, .notices] s (writeSide h f b n s) := by
  unfold writeSide
  split
  · exact changes_writeFound ..
  · split
    · exact (changes_setEdge _ _ _).mono (by simp)
    · exact .refl _ _

theorem changes_writeEdges (s : State) : ChangesOnly [.edges, .alarms, .notices] s (writeEdges s) := by
  unfold writeEdges
  split
  · exact .refl _ _
  · simp only
    split
    · exact (changes_writeSide _ _ _ _ _).then (changes_writeSide _ _ _ _ _)
    · exact (changes_writeSide _ _ _ _ _).then (changes_writeSide _ _ _ _ _)

theorem changes_closeProfile (e : ScanEdges) (s : State) :
    ChangesOnly [.profile, .alarms, .notices] s (closeProfile e s) := by
  have h1 (x : ProfileUnit) : ChangesOnly [.profile, .alarms, .notices] s (s.setProfile x) :=
    (changes_setProfile s x).mono (by simp)
  have h2 (u : State) (d : Detail) : ChangesOnly [.profile, .alarms, .notices] u (raiseEvent srcProfileThin d u) :=
    (changes_raiseEvent _ d u).mono (by simp)
  have h3 (u : State) (b : List Byte) : ChangesOnly [.profile, .alarms, .notices] u (postNotice .scan b u) :=
    (changes_postNotice _ b u).mono (by simp)
  unfold closeProfile
  split
  · exact .refl _ _
  · exact ((h1 _).then (.ite (.refl _ _) (h2 _ _))).then (h3 _ _)

theorem changes_countClose (s : State) : ChangesOnly [.standardize] s (countClose s) := changes_setStandardize ..

/-- What a scan close may change. -/
def closeParts : List Part := [.traverse, .standardize, .profile, .edges, .alarms, .notices]

theorem changes_endSearch (s : State) : ChangesOnly [.edges] s (endSearch s) := changes_setEdges ..

theorem changes_closeScan (s : State) : ChangesOnly closeParts s (closeScan s) := by
  have h1 : ChangesOnly closeParts s (writeEdges (enter .reversing (some .scanProgram) s)) :=
    ((changes_enter _ _ s).trans (changes_writeEdges _)).mono (by simp [closeParts])
  have h2 (u : State) : ChangesOnly closeParts u (closeProfile u.scanEdges u) :=
    (changes_closeProfile _ u).mono (by simp [closeParts])
  have h3 (u : State) : ChangesOnly closeParts u (countClose (endSearch u)) :=
    ((changes_endSearch u).trans (changes_countClose _)).mono (by simp [closeParts])
  have h4 (u : State) (x : Traverse) : ChangesOnly closeParts u (u.setTraverse x) :=
    (changes_setTraverse u x).mono (by simp [closeParts])
  exact ((h1.then (h2 _)).then (h3 _)).then (h4 _ _)

/-! ### Standardize (R84 to R97) -/

theorem changes_setCycle (c : Option Cycle) (s : State) : ChangesOnly [.standardize] s (setCycle c s) :=
  changes_setStandardize ..

theorem changes_commandShutter (o : Bool) (s : State) : ChangesOnly [.traverse] s (commandShutter o s) := by
  unfold commandShutter
  split
  · exact changes_setTraverse ..
  · exact .refl _ _

theorem changes_stepCycle (x y : Cycle) (s : State) : ChangesOnly [.standardize, .traverse] s (stepCycle x y s) := by
  unfold stepCycle
  simp only
  split
  · exact (changes_setCycle _ _).trans (changes_commandShutter _ _)
  · exact (changes_setCycle _ _).mono (by simp)

theorem changes_beginCycle (d : CycleDest) (s : State) : ChangesOnly [.standardize, .traverse] s (beginCycle d s) :=
  (changes_setCycle _ s).trans (changes_commandShutter _ _)

theorem changes_collectReport (k : Fin 4) (v : Nat) (s : State) :
    ChangesOnly [.standardize, .traverse] s (collectReport k v s) := by
  unfold collectReport
  split
  · exact .refl _ _
  · exact changes_stepCycle ..

theorem changes_evaluateExpired (s : State) :
    ChangesOnly [.standardize, .profile, .alarms, .notices] s (evaluateExpired s) := by
  have h1 (x : Standardize) (o n : Byte) :
      ChangesOnly [.standardize, .profile, .alarms, .notices] s (reportSet srcStdExpired o n (s.setStandardize x)) :=
    ((changes_setStandardize s x).trans (changes_reportSet _ _ _ _)).mono (by simp)
  exact (h1 _ _ _).then (.ite ((changes_markExpired _).mono (by simp)) (.refl _ _))

theorem changes_evaluateCycle (c : Cycle) (s : State) :
    ChangesOnly [.standardize, .profile, .alarms, .notices] s (evaluateCycle c s) := by
  have h1 (x : Standardize) : ChangesOnly [.standardize, .profile, .alarms, .notices] s (s.setStandardize x) :=
    (changes_setStandardize s x).mono (by simp)
  have h2 (u : State) (d : Detail) :
      ChangesOnly [.standardize, .profile, .alarms, .notices] u (raiseEvent srcStdRejected d u) :=
    (changes_raiseEvent _ d u).mono (by simp)
  have h3 (u : State) (b : List Byte) :
      ChangesOnly [.standardize, .profile, .alarms, .notices] u (setCycle none (postNotice .std b u)) :=
    ((changes_postNotice _ b u).trans (changes_setCycle _ _)).mono (by simp)
  exact (((h1 _).then (.ite (.refl _ _) (h2 _ _))).then (changes_evaluateExpired _)).then (h3 _ _)

theorem changes_leaveCycle (s : State) :
    ChangesOnly [.traverse, .edges, .alarms, .notices] s (leaveCycle s) := by
  unfold leaveCycle
  split
  · exact changes_beginMove ..
  · exact changes_beginMove ..
  · exact changes_beginMove ..
  · exact .refl _ _

/-- What the end of a cycle may change. -/
def cycleParts : List Part := [.traverse, .standardize, .profile, .edges, .alarms, .notices]

theorem changes_settleCycle (s : State) : ChangesOnly cycleParts s (settleCycle s) := by
  unfold settleCycle
  split
  · split
    · exact ((changes_evaluateCycle _ _).mono (by simp [cycleParts])).then
        ((changes_leaveCycle _).mono (by simp [cycleParts]))
    · exact .refl _ _
  · exact .refl _ _

end Sys2Proof.Machine
end

