-- ==== Sys2Proof/Laws/Alarms.lean ====
section
/-! SUPPORT. What the Alarm Unit's shared operations do to the entries, to ALARM_OUT and to the claims: each
lemma says once what one operation leaves, and that it keeps the law of the entries and the line (R168, R169,
R171, R174 to R176). -/

namespace Sys2Proof.Machine

variable {s : State}

/-! ### Notices -/

@[simp] theorem postNotice_alarms (k : NoticeKey) (b : List Byte) (s : State) :
    (postNotice k b s).alarms = s.alarms := (changes_postNotice k b s).alarms (by simp)

@[simp] theorem reportEntry_alarms (i : Fin 16) (s : State) : (reportEntry i s).alarms = s.alarms :=
  (changes_reportEntry i s).alarms (by simp)

@[simp] theorem noticeFrom_alarms (o : TravState) (s : State) : (noticeFrom o s).alarms = s.alarms :=
  (changes_noticeFrom o s).alarms (by simp)

@[simp] theorem leaveBreakPark_alarms (o : TravState) (s : State) : (leaveBreakPark o s).alarms = s.alarms :=
  (changes_leaveBreakPark o s).alarms (by simp)

/-- An entry changed: the entry alone, whatever REPORT posts (R172). -/
@[simp] theorem changeEntry_alarms (i : Fin 16) (e : AlarmEntry) (s : State) :
    (changeEntry i e s).alarms = { s.alarms with entries := s.alarms.entries.set i e } := by
  simp [changeEntry, setEntry]

/-! ### Entries -/

/-- One entry as Table 10-2 and R174 allow it. -/
def AlarmEntry.lawful (e : AlarmEntry) : Prop :=
  e.count ≤ 255 ∧ (e.lineMark = true → e.state = .active ∨ e.state = .latched)

theorem AlarmEntry.lawful_ended {e : AlarmEntry} (h : e.lawful) : e.ended.lawful := by
  obtain ⟨st, n, p, m⟩ := e
  cases st <;> simp_all [AlarmEntry.lawful, AlarmEntry.ended]

theorem AlarmEntry.lawful_withDetail {e : AlarmEntry} (h : e.lawful) (d : Detail) : (e.withDetail d).lawful := by
  obtain ⟨st, n, p, m⟩ := e
  cases st <;> simp_all [AlarmEntry.lawful, AlarmEntry.withDetail]

theorem AlarmEntry.lawful_acked {e : AlarmEntry} (h : e.lawful) : e.acked.lawful := by
  obtain ⟨st, n, p, m⟩ := e
  cases st <;> simp_all [AlarmEntry.lawful, AlarmEntry.acked]

/-- The end of a condition and a change of detail move no line mark of a lawful entry. -/
@[simp] theorem AlarmEntry.ended_mark {e : AlarmEntry} (h : e.lawful) : e.ended.lineMark = e.lineMark := by
  obtain ⟨st, n, p, m⟩ := e
  cases st <;> simp_all [AlarmEntry.lawful, AlarmEntry.ended]

@[simp] theorem AlarmEntry.withDetail_mark (e : AlarmEntry) (d : Detail) :
    (e.withDetail d).lineMark = e.lineMark := by
  obtain ⟨st, n, p, m⟩ := e
  cases st <;> simp [AlarmEntry.withDetail]

@[simp] theorem AlarmEntry.withDetail_state (e : AlarmEntry) (d : Detail) : (e.withDetail d).state = e.state := by
  obtain ⟨st, n, p, m⟩ := e
  cases st <;> simp [AlarmEntry.withDetail]

/-- Every entry lawful. -/
def AlarmUnit.lawful (a : AlarmUnit) : Prop := ∀ i : Fin 16, a.entries[i].lawful

theorem AlarmUnit.lawful_set {a : AlarmUnit} (h : a.lawful) (i : Fin 16) {e : AlarmEntry} (he : e.lawful) :
    ({ a with entries := a.entries.set i e } : AlarmUnit).lawful := by
  intro j
  by_cases hij : i.val = j.val
  · simp [hij, he]
  · simpa [Vector.getElem_set, hij] using h j

/-- An entry replaced by one of the same mark leaves the line as it is. -/
theorem AlarmUnit.anyMark_set (a : AlarmUnit) (i : Fin 16) (e : AlarmEntry)
    (he : e.lineMark = a.entries[i].lineMark) :
    ({ a with entries := a.entries.set i e } : AlarmUnit).anyMark = a.anyMark := by
  unfold AlarmUnit.anyMark
  congr 1
  funext j
  by_cases hij : i.val = j.val
  · have : i = j := Fin.ext hij
    subst this
    simp [he]
  · simp [hij]

theorem alarmLaw_iff (s : State) :
    AlarmLaw s ↔ s.alarms.lawful ∧ s.alarms.alarmOut = s.alarms.anyMark := Iff.rfl

/-! ### The readback and the line (R174, R175) -/

/-- The readback comparison gives no claim, moves ALARM_OUT not at all, and keeps the law of the entries with
every mark. -/
theorem judgeReadback_keeps (s : State) (h : s.alarms.lawful) :
    (judgeReadback s).alarms.lawful ∧ (judgeReadback s).alarms.alarmOut = s.alarms.alarmOut ∧
      (judgeReadback s).alarms.anyMark = s.alarms.anyMark := by
  unfold judgeReadback
  simp only
  split
  · split
    · simp only [changeEntry_alarms, State.setAlarms_alarms]
      exact ⟨AlarmUnit.lawful_set (a := { s.alarms with lineCheck := none }) h _
          (AlarmEntry.lawful_ended (h srcLineCheck)), trivial,
        AlarmUnit.anyMark_set { s.alarms with lineCheck := none } _ _ (AlarmEntry.ended_mark (h srcLineCheck))⟩
    · split
      · exact ⟨h, rfl, rfl⟩
      · simp only [changeEntry_alarms, State.setAlarms_alarms]
        exact ⟨AlarmUnit.lawful_set
            (a := { s.alarms with lineCheck := some (s.alarms.alarmOut, s.alarms.alarmSense) }) h _
            (AlarmEntry.lawful_withDetail (h srcLineCheck) _), trivial,
          AlarmUnit.anyMark_set { s.alarms with lineCheck := some (s.alarms.alarmOut, s.alarms.alarmSense) } _ _
            (AlarmEntry.withDetail_mark _ _)⟩
  · split
    · exact ⟨h, rfl, rfl⟩
    · split
      · exact ⟨h, rfl, rfl⟩
      · exact ⟨h, rfl, rfl⟩

@[simp] theorem judgeReadback_claims (s : State) : (judgeReadback s).alarms.claims = s.alarms.claims := by
  unfold judgeReadback
  simp only
  split
  · split
    · simp
    · split <;> simp
  · split
    · simp
    · split <;> simp

@[simp] theorem judgeReadback_sets (s : State) : (judgeReadback s).alarms.sets = s.alarms.sets := by
  unfold judgeReadback
  simp only
  split
  · split
    · simp
    · split <;> simp
  · split
    · simp
    · split <;> simp

/-- Only LINE_CHECK's own entry can move in the comparison. -/
theorem judgeReadback_entry (s : State) (i : Fin 16) (hi : i ≠ srcLineCheck) :
    (judgeReadback s).alarms.entries[i] = s.alarms.entries[i] := by
  have hv : (13 : Nat) ≠ i.val := fun h => hi (Fin.ext h.symm)
  unfold judgeReadback
  simp only
  split
  · split
    · simp [hv]
    · split <;> simp [hv]
  · split
    · simp
    · split <;> simp

@[simp] theorem judgeLine_claims (s : State) : (judgeLine s).alarms.claims = s.alarms.claims := by
  unfold judgeLine
  split <;> simp

@[simp] theorem judgeLine_sets (s : State) : (judgeLine s).alarms.sets = s.alarms.sets := by
  unfold judgeLine
  split <;> simp

theorem judgeLine_entry (s : State) (i : Fin 16) (hi : i ≠ srcLineCheck) :
    (judgeLine s).alarms.entries[i] = s.alarms.entries[i] := by
  unfold judgeLine
  split
  · rfl
  · rw [judgeReadback_entry _ _ hi]
    simp

/-- After the line is judged, ALARM_OUT stands exactly while an entry holds a mark (R174). -/
theorem judgeLine_law (s : State) (h : s.alarms.lawful) : AlarmLaw (judgeLine s) := by
  rw [alarmLaw_iff]
  unfold judgeLine
  split
  next e => exact ⟨h, e⟩
  next e =>
    have k := judgeReadback_keeps (s.setAlarms { s.alarms with alarmOut := s.alarms.anyMark }) h
    exact ⟨k.1, by rw [k.2.1, k.2.2]; rfl⟩

/-! ### Claims (R173) -/

/-- What the claims of a source add: HALT alone, or PARK with its cause, or nothing. -/
def AlarmUnit.claimOf (a : AlarmUnit) (i : Fin 16) : List AlarmClaim :=
  if a.sets[i].halt then [.halt]
  else if a.sets[i].park then [.park (if i = srcSheetBreak ∨ i = srcSheetLost then .brk else .reaction)]
  else []

@[simp] theorem giveClaims_alarms (i : Fin 16) (s : State) :
    (giveClaims i s).alarms = { s.alarms with claims := s.alarms.claims ++ s.alarms.claimOf i } := by
  unfold giveClaims AlarmUnit.claimOf
  simp only
  split
  · rfl
  · split
    · rfl
    · simp

/-! ### Occurrences (R168) -/

theorem newEpisode_lawful (s : State) (i : Fin 16) (d : Option Detail) (drill : Bool) (st : AlarmState)
    (hst : st = .active ∨ st = .latched) : (newEpisode s i d drill st).lawful := by
  simp [AlarmEntry.lawful, newEpisode, hst]

/-- An entry replaced by a lawful one of the same mark. -/
theorem law_changeEntry (i : Fin 16) (e : AlarmEntry) (s : State) (h : AlarmLaw s) (he : e.lawful)
    (hm : e.lineMark = s.alarms.entries[i].lineMark) : AlarmLaw (changeEntry i e s) := by
  rw [alarmLaw_iff, changeEntry_alarms]
  exact ⟨AlarmUnit.lawful_set h.1 i he, h.2.trans (AlarmUnit.anyMark_set s.alarms i e hm).symm⟩

/-- An occurrence keeps the law of the entries and the line. -/
theorem occur_law (i : Fin 16) (d : Option Detail) (drill : Bool) (c r : AlarmState)
    (hc : c = .active ∨ c = .latched) (hr : r = .active ∨ r = .latched) (s : State) (h : AlarmLaw s) :
    AlarmLaw (occur i d drill c r s) := by
  unfold occur
  simp only
  split
  next he =>
    have k := judgeLine_law (changeEntry i (newEpisode s i d drill c) s)
      (by rw [changeEntry_alarms]; exact AlarmUnit.lawful_set h.1 i (newEpisode_lawful s i d drill c hc))
    rw [alarmLaw_iff, giveClaims_alarms]
    exact k
  next he => exact law_changeEntry i _ s h ⟨Nat.min_le_left _ _, fun _ => hr⟩ rfl
  next he he' => exact law_changeEntry i _ s h ⟨Nat.min_le_left _ _, (h.1 i).2⟩ rfl

theorem raiseEvent_law (i : Fin 16) (d : Detail) (s : State) (h : AlarmLaw s) : AlarmLaw (raiseEvent i d s) :=
  occur_law _ _ _ _ _ (.inr rfl) (.inr rfl) s h

theorem raiseDrill_law (i : Fin 16) (s : State) (h : AlarmLaw s) : AlarmLaw (raiseDrill i s) :=
  occur_law _ _ _ _ _ (.inr rfl) (.inr rfl) s h

theorem startCondition_law (i : Fin 16) (d : Option Detail) (s : State) (h : AlarmLaw s) :
    AlarmLaw (startCondition i d s) := by
  unfold startCondition
  split
  · exact occur_law _ _ _ _ _ (.inl rfl) (.inl rfl) s h
  · exact occur_law _ _ _ _ _ (.inl rfl) (.inl rfl) s h
  · exact h

theorem endCondition_law (i : Fin 16) (s : State) (h : AlarmLaw s) : AlarmLaw (endCondition i s) := by
  have k : AlarmLaw (judgeLine (changeEntry i s.alarms.entries[i].ended s)) := judgeLine_law _ (by
    rw [changeEntry_alarms]
    exact AlarmUnit.lawful_set h.1 i (AlarmEntry.lawful_ended (h.1 i)))
  unfold endCondition
  split
  · exact k
  · exact k
  · exact h

theorem changeDetail_law (i : Fin 16) (d : Detail) (s : State) (h : AlarmLaw s) : AlarmLaw (changeDetail i d s) := by
  have k : AlarmLaw (changeEntry i (s.alarms.entries[i].withDetail d) s) :=
    law_changeEntry i _ s h (AlarmEntry.lawful_withDetail (h.1 i) d) (AlarmEntry.withDetail_mark _ _)
  unfold changeDetail
  split
  · exact k
  · exact k
  · exact h

theorem reportSet_law (i : Fin 16) (old new : Byte) (s : State) (h : AlarmLaw s) :
    AlarmLaw (reportSet i old new s) := by
  unfold reportSet
  split
  · exact h
  · split
    · exact endCondition_law _ _ h
    · split
      · exact startCondition_law _ _ _ h
      · exact changeDetail_law _ _ _ h

theorem ackSource_law (i : Fin 16) (s : State) (h : AlarmLaw s) : AlarmLaw (ackSource i s) := by
  have k : AlarmLaw (judgeLine (changeEntry i s.alarms.entries[i].acked s)) := judgeLine_law _ (by
    rw [changeEntry_alarms]
    exact AlarmUnit.lawful_set h.1 i (AlarmEntry.lawful_acked (h.1 i)))
  unfold ackSource
  split
  · exact k
  · exact k
  · exact h

/-! ### What gives no claim -/

@[simp] theorem endCondition_claims (i : Fin 16) (s : State) :
    (endCondition i s).alarms.claims = s.alarms.claims := by
  unfold endCondition
  split <;> simp

@[simp] theorem changeDetail_claims (i : Fin 16) (d : Detail) (s : State) :
    (changeDetail i d s).alarms.claims = s.alarms.claims := by
  unfold changeDetail
  split <;> simp

@[simp] theorem ackSource_claims (i : Fin 16) (s : State) : (ackSource i s).alarms.claims = s.alarms.claims := by
  unfold ackSource
  split <;> simp

/-- Entering a state gives no claim. -/
@[simp] theorem enter_claims (st : TravState) (h : Option Claim) (s : State) :
    (enter st h s).alarms.claims = s.alarms.claims := by
  unfold enter
  simp only [leaveBreakPark_alarms, noticeFrom_alarms]
  split <;> simp

/-- Entering a state leaves the traverse as `Traverse.entering` gives it, whatever the alarms and notices do. -/
@[simp] theorem enter_traverse (st : TravState) (h : Option Claim) (s : State) :
    (enter st h s).traverse = s.traverse.entering st h := by
  unfold enter
  simp only
  rw [(changes_leaveBreakPark _ _).traverse (by simp), (changes_noticeFrom _ _).traverse (by simp)]
  split
  · rw [(changes_endCondition _ _).traverse (by simp)]
    simp
  · simp

@[simp] theorem beginMove_claims (p : Purpose) (t : Int) (h : Option Claim) (s : State) :
    (beginMove p t h s).alarms.claims = s.alarms.claims := by simp [beginMove]

@[simp] theorem beginMove_state (p : Purpose) (t : Int) (h : Option Claim) (s : State) :
    (beginMove p t h s).traverse.state = .positioning { purpose := p, target := s.frame.clamp t, phase := .run } := by
  simp [beginMove, Traverse.entering]

@[simp] theorem beginMove_holder (p : Purpose) (t : Int) (h : Option Claim) (s : State) :
    (beginMove p t h s).traverse.holder = h := by simp [beginMove, Traverse.entering]

@[simp] theorem relabel_traverse (st : TravState) (h : Option Claim) (s : State) :
    (relabel st h s).traverse = { s.traverse with state := st, holder := h } := by
  unfold relabel
  rw [(changes_noticeFrom _ _).traverse (by simp)]
  simp

@[simp] theorem relabel_alarms (st : TravState) (h : Option Claim) (s : State) :
    (relabel st h s).alarms = s.alarms := (changes_relabel st h s).alarms (by simp)

/-- Ending what runs moves no alarm. -/
@[simp] theorem endRunning_alarms (old : TravState) (c : AbandonCause) (d : DwellEnd) (s : State) :
    (endRunning old c d s).alarms = s.alarms := (changes_endRunning old c d s).alarms (by simp)

/-- Ending what runs leaves the traverse state and the lines of the drive; it can clear the running scan
number alone. -/
theorem endRunning_traverse (old : TravState) (c : AbandonCause) (d : DwellEnd) (s : State) :
    (endRunning old c d s).traverse = s.traverse ∨
      (endRunning old c d s).traverse = { s.traverse with runningScan := none } := by
  unfold endRunning
  split
  · right
    unfold abandonScan
    simp only [State.setTraverse_traverse]
    rw [(changes_abandonProfile _ _ _).traverse (by simp)]
    rfl
  · left
    exact (changes_abandonCycle _).traverse (by simp)
  · left
    exact (changes_endDwell _ _).traverse (by simp)
  · left
    rfl

@[simp] theorem endRunning_state (old : TravState) (c : AbandonCause) (d : DwellEnd) (s : State) :
    (endRunning old c d s).traverse.state = s.traverse.state := by
  rcases endRunning_traverse old c d s with h | h <;> rw [h]

@[simp] theorem endRunning_holder (old : TravState) (c : AbandonCause) (d : DwellEnd) (s : State) :
    (endRunning old c d s).traverse.holder = s.traverse.holder := by
  rcases endRunning_traverse old c d s with h | h <;> rw [h]

@[simp] theorem takeHalt_claims (c : HaltCause) (s : State) : (takeHalt c s).alarms.claims = s.alarms.claims := by
  unfold takeHalt
  split
  · split <;> simp
  · rw [endRunning_alarms, enter_claims, (changes_cancelHoming _ _).alarms (by simp)]

@[simp] theorem takePark_claims (c : ParkCause) (s : State) : (takePark c s).alarms.claims = s.alarms.claims := by
  unfold takePark
  split
  · rfl
  · rfl
  · rfl
  · simp [endHoming, cancelCapture]
  · split
    · rfl
    · simp [beginPark]
  · rw [endRunning_alarms, beginPark, beginMove_claims]

/-- After the claims of an event are taken none is left. -/
theorem takeClaims_settled (s : State) : (takeClaims s).settled := by
  have h (l : List AlarmClaim) (u : State) : (l.foldl takeClaim u).alarms.claims = u.alarms.claims := by
    induction l generalizing u with
    | nil => rfl
    | cons c l ih =>
      rw [List.foldl_cons, ih]
      cases c <;> simp [takeClaim]
  unfold takeClaims State.settled
  rw [h]
  simp

/-- A HALT claim taken leaves the traverse HALTED (R32). -/
theorem takeHalt_halts (c : HaltCause) (s : State) : ∃ d, (takeHalt c s).traverse.state = .halted d := by
  unfold takeHalt
  split
  next old e =>
    split
    · exact ⟨old, e⟩
    · exact ⟨c, by simp [Traverse.entering]⟩
  · exact ⟨c, by rw [endRunning_state]; simp [Traverse.entering]⟩

end Sys2Proof.Machine
end

