-- ==== Sys2Proof/Laws/Bodies.lean ====
section
/-! SUPPORT. Bytes and numbers, low byte first (R196), and the lengths of the request bodies of Table 11-11. -/

namespace Sys2Proof

open Machine

@[simp] theorem Machine.leBytes_length (n v : Nat) : (leBytes n v).length = n := by
  induction n generalizing v with
  | zero => rfl
  | succ n ih => simp [leBytes, ih]

@[simp] theorem Machine.fieldBytes_length {w : Nat} (n : Nat) (x : BitVec w) : (fieldBytes n x).length = n := by
  simp [fieldBytes]

/-- What n bytes carry is the number modulo 256 to the n. -/
theorem Machine.fromLe_leBytes (n v : Nat) : fromLe (leBytes n v) = v % 256 ^ n := by
  induction n generalizing v with
  | zero => simp [leBytes, fromLe, Nat.mod_one]
  | succ n ih =>
    have h : (256 : Nat) ^ (n + 1) = 256 * 256 ^ n := by rw [Nat.pow_succ, Nat.mul_comm]
    rw [leBytes, fromLe, ih, BitVec.toNat_ofNat, h, Nat.mod_mul]

/-- A field of w bits written in n bytes is read back, when n bytes hold w bits. -/
theorem Machine.readField_fieldBytes {w n : Nat} (x : BitVec w) (before after : List Byte) (h : w ≤ 8 * n) :
    readField w (before ++ (fieldBytes n x ++ after)) before.length n = x := by
  apply BitVec.eq_of_toNat_eq
  have hx : x.toNat < 256 ^ n := by
    have : (256 : Nat) ^ n = 2 ^ (8 * n) := by rw [Nat.pow_mul]
    rw [this]
    exact Nat.lt_of_lt_of_le x.isLt (Nat.pow_le_pow_right (by decide) h)
  simp [readField, fieldAt, fieldBytes, fromLe_leBytes, Nat.mod_eq_of_lt hx]

@[simp] theorem FrameBody.bytes_length (b : FrameBody) : b.bytes.length = 46 := by simp [FrameBody.bytes]
@[simp] theorem SlotBody.bytes_length (b : SlotBody) : b.bytes.length = 9 := by simp [SlotBody.bytes]
@[simp] theorem StdSlotBody.bytes_length (b : StdSlotBody) : b.bytes.length = 4 := by simp [StdSlotBody.bytes]
@[simp] theorem StdBody.bytes_length (b : StdBody) : b.bytes.length = 32 := by simp [StdBody.bytes]
@[simp] theorem LayoutBody.bytes_length (b : LayoutBody) : b.bytes.length = 9 := by simp [LayoutBody.bytes]
@[simp] theorem ZoneBody.bytes_length (b : ZoneBody) : b.bytes.length = 12 := by simp [ZoneBody.bytes]
@[simp] theorem ChannelFilterBody.bytes_length (b : ChannelFilterBody) : b.bytes.length = 5 := by
  simp [ChannelFilterBody.bytes]
@[simp] theorem FilterBody.bytes_length (b : FilterBody) : b.bytes.length = 25 := by simp [FilterBody.bytes]
@[simp] theorem SheetBody.bytes_length (b : SheetBody) : b.bytes.length = 22 := by simp [SheetBody.bytes]
@[simp] theorem WatchBody.bytes_length (b : WatchBody) : b.bytes.length = 6 := by simp [WatchBody.bytes]
@[simp] theorem Breakpoint.bytes_length (p : Breakpoint) : p.bytes.length = 5 := by simp [Breakpoint.bytes]

theorem breakpoints_length (ps : List Breakpoint) : (ps.flatMap Breakpoint.bytes).length = 5 * ps.length := by
  induction ps with
  | nil => rfl
  | cons p ps ih => simp [ih]; omega

@[simp] theorem CurveBody.bytes_length (b : CurveBody) : b.bytes.length = 2 + 5 * b.points.length := by
  simp [CurveBody.bytes]
  omega

/-- The count byte of a SET CURVE body (Table 11-11). -/
theorem curveCount_bytes (b : CurveBody) (h : b.points.length < 256) :
    curveCount b.bytes = b.points.length := by
  have e : b.bytes = b.slot :: BitVec.ofNat 8 b.points.length :: b.points.flatMap Breakpoint.bytes := by
    simp [CurveBody.bytes, fieldBytes, leBytes]
  rw [e, curveCount, fieldAt]
  simp [fromLe, Nat.mod_eq_of_lt h]

end Sys2Proof
end

