-- ==== Sys2Proof/Laws/Notices.lean ====
section
/-! SUPPORT. The notice queue: what posting a notice does, once (R189, R190), how `Posted` goes on through a later post
of the same event, and that the bodies the blocks post are those the statements spell out field by field
(Table 11-7). -/

namespace Sys2Proof.Machine

/-! ### Joining the queue -/

/-- A notice's place in the queue: its key and the event at which it joined. -/
def QueuedNotice.place (n : QueuedNotice) : NoticeKey × Nat := (n.key, n.joined)

/-- A notice refreshes the one of its key in place, or joins the newest end (R189). -/
theorem joinNotice_place (key : NoticeKey) (body : List Byte) (no : Nat) (q : List QueuedNotice) :
    ∃ more : List NoticeKey,
      (joinNotice key body no q).map QueuedNotice.place = q.map QueuedNotice.place ++ more.map fun k => (k, no) := by
  induction q with
  | nil => exact ⟨[key], rfl⟩
  | cons n rest ih =>
    obtain ⟨more, h⟩ := ih
    by_cases hk : n.key = key
    · exact ⟨[], by simp [joinNotice, hk, QueuedNotice.place]⟩
    · exact ⟨more, by simp [joinNotice, hk, h]⟩

/-- The notice of the key then holds the newer body. -/
theorem joinNotice_find (key : NoticeKey) (body : List Byte) (no : Nat) (q : List QueuedNotice) :
    ((joinNotice key body no q).find? fun n => n.key = key).map QueuedNotice.body = some body := by
  induction q with
  | nil => simp [joinNotice]
  | cons n rest ih => by_cases hk : n.key = key <;> simp_all [joinNotice]

/-- The notices of every other key stand. -/
theorem joinNotice_filter {key other : NoticeKey} (h : other ≠ key) (body : List Byte) (no : Nat)
    (q : List QueuedNotice) :
    ((joinNotice key body no q).filter fun n => n.key = other) = q.filter fun n => n.key = other := by
  induction q with
  | nil => simp [joinNotice, h.symm]
  | cons n rest ih =>
    by_cases hk : n.key = key
    · simp [joinNotice, hk, h.symm]
    · simp [joinNotice, hk, List.filter_cons, ih]

/-- The queue after a post (R189, R190). -/
theorem postNotice_notices (key : NoticeKey) (body : List Byte) (s : State) :
    (postNotice key body s).link.notices =
      if s.link.mask.enables key then joinNotice key body s.link.eventNo s.link.notices else s.link.notices := by
  unfold postNotice
  split <;> rfl

@[simp] theorem postNotice_mask (key : NoticeKey) (body : List Byte) (s : State) :
    (postNotice key body s).link.mask = s.link.mask := by
  unfold postNotice
  split <;> rfl

@[simp] theorem postNotice_eventNo (key : NoticeKey) (body : List Byte) (s : State) :
    (postNotice key body s).link.eventNo = s.link.eventNo := by
  unfold postNotice
  split <;> rfl

/-! ### Posted -/

/-- `Posted` with the mask's own test of a key. -/
theorem posted_iff (key : NoticeKey) (body : List Byte) (s t : State) :
    Posted key body s t ↔
      (∃ more : List NoticeKey,
        t.link.notices.map QueuedNotice.place =
          s.link.notices.map QueuedNotice.place ++ more.map fun k => (k, t.link.eventNo)) ∧
      (s.link.mask.enables key = true →
        (t.link.notices.find? fun n => n.key = key).map QueuedNotice.body = some body) ∧
      (s.link.mask.enables key = false →
        (t.link.notices.filter fun n => n.key = key) = s.link.notices.filter fun n => n.key = key) := by
  cases key <;> exact Iff.rfl

/-- What a post does. -/
theorem posted_postNotice (key : NoticeKey) (body : List Byte) (s : State) :
    Posted key body s (postNotice key body s) := by
  rw [posted_iff, postNotice_notices, postNotice_eventNo]
  cases h : s.link.mask.enables key
  · exact ⟨⟨[], by simp⟩, by simp, by simp⟩
  · exact ⟨by simpa using joinNotice_place .., fun _ => by simpa using joinNotice_find .., by simp⟩

/-- A later post of another key in the same event leaves a notice posted. -/
theorem Posted.other {key other : NoticeKey} {body body' : List Byte} {s t : State} (h : Posted key body s t)
    (hk : key ≠ other) : Posted key body s (postNotice other body' t) := by
  rw [posted_iff] at h ⊢
  obtain ⟨⟨more, hp⟩, hf, hn⟩ := h
  rw [postNotice_notices, postNotice_eventNo]
  cases hm : t.link.mask.enables other
  · exact ⟨⟨more, by simpa using hp⟩, by simpa using hf, by simpa using hn⟩
  · obtain ⟨more', hj⟩ := joinNotice_place other body' t.link.eventNo t.link.notices
    have hfind : ((joinNotice other body' t.link.eventNo t.link.notices).find? fun n => n.key = key) =
        t.link.notices.find? fun n => n.key = key := by
      rw [← List.head?_filter, ← List.head?_filter, joinNotice_filter hk]
    refine ⟨⟨more ++ more', ?_⟩, ?_, ?_⟩
    · simpa [hp] using hj
    · simpa [hfind] using hf
    · simpa [joinNotice_filter hk] using hn

/-- A later post of the same key in the same event refreshes it: the newer body is the one posted. -/
theorem Posted.again {key : NoticeKey} {body body' : List Byte} {s t : State} (h : Posted key body s t)
    (hm : t.link.mask = s.link.mask) : Posted key body' s (postNotice key body' t) := by
  rw [posted_iff] at h ⊢
  obtain ⟨⟨more, hp⟩, -, hn⟩ := h
  rw [postNotice_notices, postNotice_eventNo, hm]
  cases he : s.link.mask.enables key
  · exact ⟨⟨more, by simpa using hp⟩, by simp, by simpa [he] using hn⟩
  · obtain ⟨more', hj⟩ := joinNotice_place key body' t.link.eventNo t.link.notices
    exact ⟨⟨more ++ more', by simpa [hp] using hj⟩, fun _ => by simpa using joinNotice_find .., by simp⟩

/-! ### The bodies, field by field -/

/-- Bytes do not tell a number from its rest modulo 256 to the n. -/
theorem leBytes_mod (n v : Nat) : leBytes n (v % 256 ^ n) = leBytes n v := by
  induction n generalizing v with
  | zero => rfl
  | succ n ih =>
    have h : (256 : Nat) ^ (n + 1) = 256 * 256 ^ n := by rw [Nat.pow_succ, Nat.mul_comm]
    have hd : v % (256 * 256 ^ n) / 256 = v / 256 % 256 ^ n := by rw [Nat.mod_mul_right_div_self]
    have hb : BitVec.ofNat 8 (v % (256 * 256 ^ n)) = BitVec.ofNat 8 v := by
      apply BitVec.eq_of_toNat_eq
      simp
    rw [leBytes, leBytes, h, hd, hb, ih]

/-- A field of a number is its bytes, low byte first. -/
@[simp] theorem leInt_natCast (n v : Nat) : leInt n (v : Int) = leBytes n v := by
  rw [← leBytes_mod n v, leInt]
  norm_cast

@[simp] theorem leInt_zero (n : Nat) : leInt n 0 = leBytes n 0 := leInt_natCast n 0

@[simp] theorem leInt_one (n : Nat) : leInt n 1 = leBytes n 1 := leInt_natCast n 1

@[simp] theorem laid_nil : laid [] = [] := rfl

@[simp] theorem laid_cons (f : Nat × Int) (fs : List (Nat × Int)) : laid (f :: fs) = leInt f.1 f.2 ++ laid fs := by
  simp [laid]

@[simp] theorem laid_append (fs gs : List (Nat × Int)) : laid (fs ++ gs) = laid fs ++ laid gs := by
  simp [laid]

/-- A run of records laid out is the records laid out one after another. -/
theorem laid_flatMap {α : Type} (l : List α) (f : α → List (Nat × Int)) :
    laid (l.flatMap f) = l.flatMap fun x => laid (f x) := by
  induction l with
  | nil => rfl
  | cons x l ih => simp [ih]

/-- A signed number that its field holds is sent as it is (R196). -/
theorem signedField_of_fits {n : Nat} {v : Int} (h : -(2 : Int) ^ (8 * n - 1) ≤ v ∧ v < 2 ^ (8 * n - 1)) :
    signedField n v = leInt n v := by
  rw [signedField, fieldValue, if_pos h]

@[simp] theorem sent_bytes (n : Nat) (v : Int) : leInt (sent n v).1 (sent n v).2 = signedField n v := rfl

/-- A number in one byte. -/
theorem leBytes_one (v : Nat) : leBytes 1 v = [BitVec.ofNat 8 v] := rfl

/-- A yes/no field in one byte. -/
@[simp] theorem ofNat_toNat_flag (b : Bool) : BitVec.ofNat 8 b.toNat = flagByte b := by cases b <;> rfl

/-- Two yes/no answers in one byte. -/
@[simp] theorem ofNat_bitField_two (a b : Bool) :
    BitVec.ofNat 8 (bitField [a, b]) = flagByte a ||| (flagByte b <<< 1) := by cases a <;> cases b <;> rfl

@[simp] theorem TravState.qualifierField_eq (x : TravState) : x.qualifierField = x.qualifier := by cases x <;> rfl

@[simp] theorem TravState.parkCauseField_eq (x : TravState) : x.parkCauseField = x.parkCauseCode := by
  cases x with
  | positioning m => obtain ⟨p, q, ph⟩ := m; cases p <;> rfl
  | _ => rfl

@[simp] theorem TravState.destinationField_eq (x : TravState) : x.destinationField = x.destinationCode := by
  cases x with
  | positioning m => obtain ⟨p, q, ph⟩ := m; cases p <;> rfl
  | _ => rfl

/-- A MOTION notice (R17). -/
theorem motionNotice_eq (s : State) : s.motionNotice = s.motionBody := by
  have h : leInt 4 (if s.traverse.state = .traversing then (s.traverse.runningScan.getD 0 : Int) else 0) =
      leBytes 4 (if s.traverse.state = .traversing then s.traverse.runningScan.getD 0 else 0) := by
    split <;> simp
  simp [State.motionNotice, State.motionBody, leBytes_one, State.counter, h]

/-- A SCAN notice (R138). -/
theorem scanNotice_eq (r : ScanRecord) (bank : Nat) : r.notice bank = r.noticeBody bank := by
  simp [ScanRecord.notice, ScanRecord.noticeBody, joined, laid_flatMap, leBytes_one]

/-- The STD notice (R92). -/
theorem stdNotice_eq (s : State) (c : Cycle) (abandoned : Bool) : s.stdNotice c abandoned = s.stdBody c abandoned := by
  simp [State.stdNotice, State.stdBody, joined, laid_flatMap, leBytes_one, State.counter]

/-- The fields of an alarm detail (Table 11-8). -/
theorem detailFields_eq (d : Detail) : laid (detailFields d) = d.fields := by
  cases d with
  | moveTimeout x p => cases x <;> simp [detailFields, Detail.fields, leBytes_one, TravState.purpose]
  | _ => simp [detailFields, Detail.fields, leBytes_one]

/-- A detail takes at most the ten bytes of its field (Table 11-8). -/
theorem Detail.fields_length (d : Detail) : d.fields.length ≤ 10 := by
  cases d <;> simp [Detail.fields, leInt, signedField]

/-- The ten zero-filled bytes of a detail (Table 11-8). -/
theorem detailBytes_eq (d : Option Detail) :
    detailBytes d =
      (d.map Detail.fields).getD [] ++ List.replicate (10 - ((d.map Detail.fields).getD []).length) 0 := by
  cases d with
  | none => rfl
  | some d =>
    have h := d.fields_length
    simp only [detailBytes, Option.map_some, Option.getD_some, List.take_append, List.take_of_length_le h,
      List.take_replicate]
    congr 2
    omega

/-- An ALARM notice (R172). -/
theorem alarmNotice_eq (s : State) (i : Fin 16) : s.alarmNotice i = alarmBody i s.alarms.entries[i] := by
  rw [State.alarmNotice, alarmBody]
  cases h : s.alarms.entries[i].episode with
  | none => simp [leBytes_one, detailBytes_eq]; rfl
  | some p =>
    have hf : BitVec.ofNat 8 (bitField [true, p.drill]) = 1#8 ||| (flagByte p.drill <<< 1) := by simp [flagByte]
    have hd : (p.detail.map fun d => laid (detailFields d)) = p.detail.map Detail.fields := by
      simp [funext detailFields_eq]
    simp [leBytes_one, detailBytes_eq, hf, hd, fieldBytes]

/-- A changed entry is reported (R172). -/
theorem reported_changeEntry (i : Fin 16) (e : AlarmEntry) (s : State) : Reported i s (changeEntry i e s) := by
  intro h
  have hb : (changeEntry i e s).alarmNotice i = alarmBody i e := by simp [alarmNotice_eq]
  have he : changeEntry i e s = postNotice (.alarm i) (alarmBody i e) (setEntry i e s) := by
    have h' : (setEntry i e s).alarms.sets[i].report = true := h
    rw [changeEntry, reportEntry, if_pos h']
    simp [setEntry]
  rw [hb, he]
  exact posted_postNotice (.alarm i) (alarmBody i e) (setEntry i e s)

/-- The bytes of a MOTION notice and the model's own key tell the same changes apart (R17). -/
theorem told_eq_iff (x y : TravState) : x.told = y.told ↔ x.motionKey = y.motionKey := by
  let tell (k : Nat × Option Nat × Option ParkCause × Option HaltCause × Option CycleDest) : Nat × Nat × Nat × Nat :=
    (k.1, (k.2.1.or ((if k.2.1 = none then k.2.2.1.map ParkCause.code else none).or (k.2.2.2.1.map HaltCause.code))).getD 0,
      (k.2.2.1.map ParkCause.code).getD 0, (k.2.2.2.2.map CycleDest.code).getD 0)
  let key (n : Nat × Nat × Nat × Nat) : Nat × Option Nat × Option ParkCause × Option HaltCause × Option CycleDest :=
    (n.1, if n.1 = 3 then some n.2.1 else none,
      if n.1 = 2 ∨ n.1 = 3 ∧ n.2.1 = 0 then [ParkCause.host, .homed, .brk, .reaction, .config][n.2.2.1]? else none,
      if n.1 = 8 then [HaltCause.reaction, .limit, .restart][n.2.1]? else none,
      if n.2.2.2 = 0 then none else [CycleDest.park, .turnLow, .ret][n.2.2.2 - 1]?)
  have ht (z : TravState) : z.told = tell z.motionKey := by
    cases z with
    | positioning m => obtain ⟨p, q, ph⟩ := m; cases p <;> rfl
    | _ => rfl
  have hk (z : TravState) : z.motionKey = key z.told := by
    cases z with
    | positioning m =>
      obtain ⟨p, q, ph⟩ := m
      cases p with
      | toPark c => cases c <;> rfl
      | toStd d => cases d <;> rfl
      | _ => rfl
    | parked c => cases c <;> rfl
    | standardizing d => cases d <;> rfl
    | halted c => cases c <;> rfl
    | _ => rfl
  exact ⟨fun h => by rw [hk x, hk y, h], fun h => by rw [ht x, ht y, h]⟩

/-- A change of traverse state is told, and what is no change is not (R17). -/
theorem motionNoticed_noticeFrom {old s : State} (h : s.link = old.link) :
    MotionNoticed old (noticeFrom old.traverse.state s) := by
  have ht : (noticeFrom old.traverse.state s).traverse = s.traverse :=
    (changes_noticeFrom old.traverse.state s).traverse (by simp)
  have hb : (noticeFrom old.traverse.state s).motionNotice = s.motionBody := by
    rw [motionNotice_eq, State.motionBody, ht]
    simp [State.motionBody, State.counter, (changes_noticeFrom old.traverse.state s).position (by simp)]
  rw [MotionNoticed, ht, hb]
  refine ⟨fun hk => ?_, fun hk => ?_⟩
  · rw [noticeFrom, if_neg fun e => hk ((told_eq_iff ..).2 e)]
    have hp := posted_postNotice .motion s.motionBody s
    simpa only [Posted, postMotion, h] using hp
  · rw [noticeFrom, if_pos ((told_eq_iff ..).1 hk), h]

end Sys2Proof.Machine
end

