-- ==== Sys2Proof/Laws/TickFrames.lean ====
section
/-! SUPPORT. What the operations of the Edge and Break Monitor, the resume step and the motion tick change, and
what taking the claims of an event does when it gave none. -/

namespace Sys2Proof.Machine

variable {s t u : State}

/-! ### The claims of an event -/

/-- A single claim is taken as it stands, whatever the order. -/
@[simp] theorem placeClaims_singleton (n : Nat) (c : AlarmClaim) : placeClaims n [c] = [c] := by
  simp [placeClaims]

/-- An event that gave no claim is over as its work is done. -/
theorem takeClaims_of_settled (h : s.settled) : takeClaims s = s := by
  have hc : s.alarms.claims = [] := h
  have : s.claimOrder = [] := by simp [State.claimOrder, hc, placeClaims]
  rw [takeClaims, this]
  show s.setAlarms _ = s
  rw [← hc]
  rfl

theorem afterEvent_of_settled (f : State → State) (s : State) (h : (f s.nextEvent).settled) :
    afterEvent f s = f s.nextEvent := takeClaims_of_settled h

theorem event_of_settled (f : State → State) (s : State) (h : (f s.nextEvent).settled) :
    event f s = .next (f s.nextEvent) := by rw [event, afterEvent_of_settled f s h]

/-! ### The Edge and Break Monitor -/

theorem changes_markExtended (s : State) : ChangesOnly [.profile] s (markExtended s) := changes_setProfile ..

theorem changes_extendTurn (p : Int) (s : State) : ChangesOnly [.traverse, .profile] s (extendTurn p s) := by
  unfold extendTurn
  split
  · simp only
    split
    · exact .ite ((changes_setTraverse s _).trans (changes_markExtended _)) (.refl _ _)
    · exact .refl _ _
  · exact .refl _ _

theorem changes_askExtension (p : Int) (s : State) : ChangesOnly [.traverse, .profile] s (askExtension p s) := by
  unfold askExtension
  simp only
  split
  · exact .ite (changes_extendTurn _ _) (.refl _ _)
  · exact .ite (changes_extendTurn _ _) (.refl _ _)
  · exact .refl _ _

theorem changes_judgeHole (s : State) : ChangesOnly [.edges, .alarms, .notices] s (judgeHole s) := by
  unfold judgeHole
  exact .ite (((changes_raiseEvent _ _ s).trans (changes_setEdges _ _)).mono (by simp)) (.refl _ _)

theorem changes_judgeLoss (s : State) : ChangesOnly [.edges, .alarms, .notices] s (judgeLoss s) := by
  unfold judgeLoss
  exact .ite (((changes_raiseEvent _ _ s).trans (changes_setEdges _ _)).mono (by simp)) (.refl _ _)

theorem changes_searchEdges (p : Presence) (e : HistEntry) (s : State) :
    ChangesOnly [.traverse, .profile, .edges] s (searchEdges p e s) := by
  have h1 (x : EdgeMonitor) : ChangesOnly [.traverse, .profile, .edges] s (s.setEdges x) :=
    (changes_setEdges s x).mono (by simp)
  unfold searchEdges
  exact .ite ((h1 _).then (.ite ((changes_askExtension _ _).mono (by simp)) (.refl _ _))) (.refl _ _)

/-- What a presence reading may change at the monitor. -/
def monitorParts : List Part := [.traverse, .profile, .edges, .alarms, .notices]

theorem changes_monitorReading (p : Presence) (e : Option HistEntry) (s : State) :
    ChangesOnly monitorParts s (monitorReading p e s) := by
  have h1 (u : State) (x : EdgeMonitor) : ChangesOnly monitorParts u (u.setEdges x) :=
    (changes_setEdges u x).mono (by simp [monitorParts])
  have h2 (u : State) (p : Presence) (e : HistEntry) : ChangesOnly monitorParts u (searchEdges p e u) :=
    (changes_searchEdges p e u).mono (by simp [monitorParts])
  unfold monitorReading
  split
  · exact .refl _ _
  · refine .ite ?_ (.refl _ _)
    split
    · exact .refl _ _
    · exact (((changes_judgeHole s).mono (by simp [monitorParts])).then (h1 _ _)).then (h2 _ _ _)
    · exact ((h1 s _).then ((changes_judgeLoss _).mono (by simp [monitorParts]))).then (h2 _ _ _)

theorem changes_acceptBreakLevel (s : State) :
    ChangesOnly [.edges, .alarms, .notices] s (acceptBreakLevel s) := by
  unfold acceptBreakLevel
  exact .ite ((changes_setEdges s _).trans (changes_startCondition _ _ _))
    ((changes_setEdges s _).trans (changes_endCondition _ _))

theorem changes_countHoldoff (s : State) : ChangesOnly [.edges] s (countHoldoff s) := by
  unfold countHoldoff
  split
  · exact changes_setEdges ..
  · exact .refl _ _

/-! ### Approach and resume (R37, R43, R156) -/

theorem changes_approach (h : Claim) (s : State) :
    ChangesOnly [.traverse, .edges, .alarms, .notices] s (approach h s) := by
  unfold approach
  exact .ite (changes_beginMove _ _ _ _) (changes_beginMove _ _ _ _)

theorem changes_breakResume (s : State) : ChangesOnly [.profile] s (breakResume s) := changes_setProfile ..

theorem changes_takeResume (s : State) : ChangesOnly monitorParts s (takeResume s) :=
  (((changes_setTraverse s _).trans (changes_breakResume _)).trans (changes_approach _ _)).mono
    (by simp [monitorParts])

theorem changes_endResume (o : ResumeOutcome) (s : State) : ChangesOnly [.edges] s (endResume o s) :=
  changes_setEdges ..

theorem changes_resumeStep (s : State) : ChangesOnly monitorParts s (resumeStep s) := by
  have h1 (o : ResumeOutcome) (u : State) : ChangesOnly monitorParts u (endResume o u) :=
    (changes_endResume o u).mono (by simp [monitorParts])
  have h2 (i : Fin 16) (u : State) : ChangesOnly monitorParts u (ackIfLatched i u) :=
    (changes_ackIfLatched i u).mono (by simp [monitorParts])
  unfold resumeStep
  exact .ite (h1 _ _)
    (((h2 _ _).then (h2 _ _)).then (.ite ((h1 _ _).then (changes_takeResume _)) (h1 _ _)))

theorem changes_arrivePark (c : ParkCause) (s : State) : ChangesOnly monitorParts s (arrivePark c s) := by
  unfold arrivePark
  exact ((changes_enter _ _ s).mono (by simp [monitorParts])).then (.ite (changes_resumeStep _) (.refl _ _))

theorem changes_openDwell (p : Int) (n : Nat) (s : State) : ChangesOnly [.point] s (openDwell p n s) :=
  changes_setPoint ..

/-! ### The motion tick (R19 to R22, R27, R28, R36, R40) -/

/-- What the work of a tick may change. -/
def tickParts : List Part :=
  [.position, .traverse, .conversion, .standardize, .boxes, .profile, .edges, .point, .alarms, .notices]

theorem changes_completeMove (m : Move) (s : State) : ChangesOnly tickParts s (completeMove m s) := by
  unfold completeMove
  split
  · exact (changes_arrivePark _ _).mono (by simp [tickParts, monitorParts])
  · exact ((changes_enter _ _ s).trans (changes_beginCycle _ _)).mono (by simp [tickParts])
  · exact ((changes_enter _ _ s).trans (changes_openDwell _ _ _)).mono (by simp [tickParts])
  · exact (changes_scanStart _ _).mono (by simp [tickParts, scanParts])

theorem changes_rampState (d : Option Dir) (n : Nat) (s : State) : ChangesOnly [.traverse] s (rampState d n s) :=
  changes_setTraverse ..

theorem changes_tickRun (m : Move) (s : State) : ChangesOnly tickParts s (tickRun m s) := by
  have h1 (d : Option Dir) (n : Nat) : ChangesOnly tickParts s (rampState d n s) :=
    (changes_rampState d n s).mono (by simp [tickParts])
  have h2 (u : State) : ChangesOnly tickParts u (setPhase m .creep u) :=
    (changes_setTraverse u _).mono (by simp [tickParts])
  unfold tickRun
  exact (h1 _ _).then (.ite (.ite (changes_completeMove _ _) (.ite (h2 _) (.refl _ _))) (.refl _ _))

theorem changes_tickCreep (m : Move) (s : State) : ChangesOnly tickParts s (tickCreep m s) := by
  have h1 (d : Option Dir) (n : Nat) : ChangesOnly tickParts s (rampState d n s) :=
    (changes_rampState d n s).mono (by simp [tickParts])
  unfold tickCreep
  exact (h1 _ _).then (.ite (changes_completeMove _ _) (.refl _ _))

theorem changes_moveHoming (p : HomingPhase) (s : State) :
    ChangesOnly [.position, .traverse] s (moveHoming p s) := by
  unfold moveHoming
  split
  · exact (changes_setTraverse s _).mono (by simp)
  · exact ((changes_setPosition s _).trans (changes_setTraverse _ _)).mono (by simp)
  · exact .refl _ _

theorem changes_rampHoming (s : State) : ChangesOnly [.traverse] s (rampHoming s) := by
  unfold rampHoming
  split
  · exact changes_rampState ..
  · exact changes_rampState ..
  · exact changes_rampState ..
  · exact .refl _ _

theorem changes_endReversal (s : State) : ChangesOnly scanParts s (endReversal s) := by
  unfold endReversal
  exact .ite ((changes_beginMove _ _ _ s).mono (by simp [scanParts]))
    (.ite (.refl _ _) (.ite (changes_flipAndStart s) ((changes_setTraverse s _).mono (by simp [scanParts]))))

theorem changes_tickReversing (s : State) : ChangesOnly scanParts s (tickReversing s) := by
  unfold tickReversing
  exact ((changes_rampState _ _ s).mono (by simp [scanParts])).then (.ite (changes_endReversal _) (.refl _ _))

theorem changes_tickTraversing (s : State) : ChangesOnly tickParts s (tickTraversing s) := by
  have h1 (x : Traverse) : ChangesOnly tickParts s (s.setTraverse x) :=
    (changes_setTraverse s x).mono (by simp [tickParts])
  unfold tickTraversing
  exact .ite
    (((h1 _).then ((changes_closeScan _).mono (by simp [tickParts, closeParts]))).then
      ((changes_tickReversing _).mono (by simp [tickParts, scanParts])))
    ((changes_rampState _ _ s).mono (by simp [tickParts]))

theorem changes_tickState (s : State) : ChangesOnly tickParts s (tickState s) := by
  unfold tickState
  split
  · exact ((changes_moveHoming _ s).trans (changes_rampHoming _)).mono (by simp [tickParts])
  · split
    · exact changes_tickRun ..
    · exact changes_tickCreep ..
  · exact changes_tickTraversing s
  · exact (changes_tickReversing s).mono (by simp [tickParts, scanParts])
  · exact .refl _ _

theorem changes_watchStall (s : State) : ChangesOnly [.traverse] s (watchStall s) := changes_setTraverse ..

theorem changes_countMillis (s : State) : ChangesOnly [.profile] s (countMillis s) := changes_setProfile ..

theorem changes_motionTick (homeSw : Bool) (s : State) : ChangesOnly tickParts s (motionTick homeSw s) := by
  have h1 : ChangesOnly tickParts s
      (watchStall (countHoldoff (countMillis (s.setPosition { s.position with homeSw := homeSw })))) :=
    ((((changes_setPosition s _).trans (changes_countMillis _)).trans (changes_countHoldoff _)).trans
      (changes_watchStall _)).mono (by simp [tickParts])
  exact (h1.then (changes_tickState _)).then ((changes_setTraverse _ _).mono (by simp [tickParts]))

/-! ### Limit lines and DRV_READY (R39, R41) -/

theorem changes_judgeLimits (s : State) : ChangesOnly [.alarms, .notices] s (judgeLimits s) := by
  unfold judgeLimits
  simp only
  split
  · split
    · exact changes_changeDetail ..
    · exact changes_changeDetail ..
    · exact changes_startCondition ..
  · exact changes_endCondition ..

theorem changes_assertLimits (lo hi : Bool) (s : State) : ChangesOnly motionParts s (assertLimits lo hi s) := by
  have h1 (x : Traverse) : ChangesOnly motionParts s (s.setTraverse x) :=
    (changes_setTraverse s x).mono (by simp [motionParts])
  have h2 (u : State) : ChangesOnly motionParts u (judgeLimits (takeHalt .limit u)) :=
    (changes_takeHalt _ u).then ((changes_judgeLimits _).mono (by simp [motionParts]))
  unfold assertLimits
  simp only
  split
  · exact ((h1 _).then (h2 _)).then (.ite ((changes_raiseEvent _ _ _).mono (by simp [motionParts])) (.refl _ _))
  · exact (h1 _).then (h2 _)

theorem changes_expireReadyWatch (s : State) :
    ChangesOnly [.traverse, .alarms, .notices] s (expireReadyWatch s) := by
  unfold expireReadyWatch
  exact .ite ((changes_setTraverse s _).trans (changes_endCondition _ _))
    ((changes_setTraverse s _).trans (changes_startCondition _ _ _))

end Sys2Proof.Machine
end

