-- ==== Sys2Proof/Laws/PathFrames.lean ====
section
/-! SUPPORT. What the operations of the sample path change: a slot report on its way through the Conversion
Unit, the Standardize Unit and the link's own work, and the sync. -/

namespace Sys2Proof.Machine

/-- What a slot report may change. -/
def reportParts : List Part :=
  [.traverse, .headLink, .conversion, .standardize, .boxes, .profile, .edges, .point, .alarms, .notices]

theorem changes_setPresence (p : Presence × Bool) (s : State) : ChangesOnly [.conversion] s (setPresence p s) :=
  changes_setConversion ..

theorem changes_addToBox (k : Fin 4) (b : Nat) (e : Int) (s : State) : ChangesOnly [.boxes] s (addToBox k b e s) :=
  changes_setBoxes ..

theorem changes_binReading (k : Fin 4) (v : Conversed) (e : Option HistEntry) (s : State) :
    ChangesOnly [.boxes] s (binReading k v e s) := by
  unfold binReading
  split
  · exact changes_addToBox ..
  · exact .refl _ _

theorem changes_setDwell (d : Dwell) (s : State) : ChangesOnly [.point] s (setDwell d s) := changes_setPoint ..

theorem changes_dwellReading (k : Fin 4) (v : Conversed) (p : Presence) (e : Option HistEntry) (s : State) :
    ChangesOnly [.point] s (dwellReading k v p e s) := by
  unfold dwellReading
  split
  · exact .ite (changes_setDwell _ _) (.refl _ _)
  · exact .refl _ _

theorem changes_conversionWork (r : SlotReport) (s : State) : ChangesOnly reportParts s (conversionWork r s) := by
  have h1 (p : Presence × Bool) : ChangesOnly reportParts s (setPresence p s) :=
    (changes_setPresence p s).mono (by simp [reportParts])
  have h2 (k : Fin 4) (v : Conversed) (p : Presence) (e : Option HistEntry) (u : State) :
      ChangesOnly reportParts u (dwellReading k v p e (binReading k v e u)) :=
    ((changes_binReading _ _ _ u).trans (changes_dwellReading _ _ _ _ _)).mono (by simp [reportParts])
  unfold conversionWork
  exact .ite (((h1 _).then (h2 _ _ _ _ _)).then
      ((changes_monitorReading _ _ _).mono (by simp [reportParts, monitorParts])))
    (h2 _ _ _ _ _)

theorem changes_setLinkOf (k : Fin 4) (l : SlotLink) (s : State) : ChangesOnly [.headLink] s (setLinkOf k l s) :=
  changes_setHeadLink ..

theorem changes_judgeFaults (s : State) : ChangesOnly [.headLink, .alarms, .notices] s (judgeFaults s) :=
  (changes_setHeadLink s _).trans (changes_reportSet _ _ _ _)

theorem changes_judgeWatches (s : State) : ChangesOnly [.headLink, .alarms, .notices] s (judgeWatches s) :=
  (changes_setHeadLink s _).trans (changes_reportSet _ _ _ _)

theorem changes_takeMessage (k : Fin 4) (bits : List Bool) (s : State) :
    ChangesOnly [.headLink, .alarms, .notices] s (takeMessage k bits s) := by
  unfold takeMessage
  exact .ite (((changes_setHeadLink s _).trans (changes_judgeWatches _)).mono (by simp)) (.refl _ _)

theorem changes_slowBit (r : SlotReport) (s : State) :
    ChangesOnly [.headLink, .alarms, .notices] s (slowBit r s) := by
  have h (l : SlotLink) : ChangesOnly [.headLink, .alarms, .notices] s (setLinkOf r.slot l s) :=
    (changes_setLinkOf _ l s).mono (by simp)
  unfold slowBit
  simp only
  split
  · exact .ite (h _) (.ite (.refl _ _) (.ite ((h _).then (changes_takeMessage _ _ _)) (h _)))
  · exact .ite (h _) (.ite (.refl _ _) (.ite ((h _).then (changes_takeMessage _ _ _)) (h _)))
  · exact h _

theorem changes_linkWork (r : SlotReport) (s : State) :
    ChangesOnly [.headLink, .alarms, .notices] s (linkWork r s) :=
  (((changes_setLinkOf _ _ s).mono (by simp)).then (changes_judgeFaults _)).then (changes_slowBit _ _)

theorem changes_standardizeWork (r : SlotReport) (s : State) : ChangesOnly cycleParts s (standardizeWork r s) := by
  unfold standardizeWork
  exact .ite (((changes_collectReport _ _ s).mono (by simp [cycleParts])).then (changes_settleCycle _)) (.refl _ _)

theorem changes_handOver (r : SlotReport) (s : State) : ChangesOnly reportParts s (handOver r s) := by
  have h1 (u : State) : ChangesOnly reportParts u (linkWork r u) :=
    (changes_linkWork r u).mono (by simp [reportParts])
  have h2 (u : State) : ChangesOnly reportParts u (standardizeWork r u) :=
    (changes_standardizeWork r u).mono (by simp [reportParts, cycleParts])
  have h3 (u : State) : ChangesOnly reportParts u (conversionWork r u) := changes_conversionWork r u
  have h4 (u : State) (c : Prop) [Decidable c] :
      ChangesOnly reportParts u
        (if c then conversionWork r (standardizeWork r u) else standardizeWork r (conversionWork r u)) :=
    .ite ((h2 u).then (h3 _)) ((h3 u).then (h2 _))
  unfold handOver
  exact .ite ((h1 s).then (h4 _ _)) ((h4 s _).then (h1 _))

theorem changes_settleOutcome (k : Fin 4) (o : FrameOutcome) (v : Nat) (m d : Bool) (s : State) :
    ChangesOnly reportParts s (settleOutcome k o v m d s) :=
  ((changes_setLinkOf _ _ s).mono (by simp [reportParts])).then (changes_handOver _ _)

theorem changes_completeFrame (bits : BitVec 25) (s : State) :
    ChangesOnly reportParts s (completeFrame bits s) := by
  have h (x : HeadLink) : ChangesOnly reportParts s (s.setHeadLink x) :=
    (changes_setHeadLink s x).mono (by simp [reportParts])
  unfold completeFrame
  simp only
  split
  · exact (h _).then (changes_settleOutcome _ _ _ _ _ _)
  · exact (h _).then (changes_settleOutcome _ _ _ _ _ _)
  · exact h _
  · exact .refl _ _

theorem changes_closePeriod (s : State) : ChangesOnly reportParts s (closePeriod s) := by
  unfold closePeriod
  refine ((changes_setHeadLink s _).mono (by simp [reportParts])).then (.foldl _ (fun u k => ?_) _ _)
  unfold closeSlot
  exact .ite (changes_settleOutcome _ _ _ _ _ _) (.refl _ _)

theorem changes_countDwellSync (s : State) : ChangesOnly [.point] s (countDwellSync s) := by
  unfold countDwellSync
  split
  · exact .ite (changes_setPoint _ _) (changes_setDwell _ _)
  · exact .refl _ _

theorem changes_writeHistory (n : Word16) (s : State) : ChangesOnly [.position] s (writeHistory n s) :=
  changes_setPosition ..

theorem changes_takeSync (s : State) : ChangesOnly (.position :: reportParts) s (takeSync s) := by
  unfold takeSync
  refine .ite ?_ (.refl _ _)
  refine ((changes_closePeriod s).mono (by simp)).then ?_
  exact (((changes_setHeadLink _ _).trans (changes_writeHistory _ _)).trans (changes_countDwellSync _)).mono
    (by simp [reportParts])

theorem changes_takeStartBit (n : Nat) (b : Bool) (s : State) :
    ChangesOnly [.headLink] s (takeStartBit n b s) := by
  unfold takeStartBit
  exact .ite (changes_setHeadLink _ _) (.refl _ _)

end Sys2Proof.Machine
end

