-- ==== Sys2Proof/Laws/PerInstr.lean ====
section
/-! SUPPORT. The statements about every command of the table as syntax, one lemma per constructor. -/

namespace Sys2Proof.Laws

open Machine

/-- The frame of a command that can be given has the length its kind asks for, and fits a frame (R182, R186,
Table 11-11). -/
def RequestLength.Statement (i : Instr) : Prop :=
  i.WellFormed = true → ∀ m, requestMessage i = some m →
    requestLength m.kind m.body = some m.body.length ∧ m.body.length ≤ Config.maxBody

theorem RequestLength.coldReset (cause : ColdCause) (pins : ResetPins) : RequestLength.Statement (.coldReset cause pins) := by
  intro _ m h
  cases (show none = some m from h)

theorem RequestLength.restart (tag : Byte) : RequestLength.Statement (.restart tag) := by
  intro _ m h
  cases (show none = some m from h)

theorem RequestLength.receiveByte (input : RxInput) : RequestLength.Statement (.receiveByte input) := by
  intro _ m h
  cases (show none = some m from h)

theorem RequestLength.dispatchRequest : RequestLength.Statement .dispatchRequest := by
  intro _ m h
  cases (show none = some m from h)

theorem RequestLength.transmitFrame : RequestLength.Statement .transmitFrame := by
  intro _ m h
  cases (show none = some m from h)

theorem RequestLength.frameSent : RequestLength.Statement .frameSent := by
  intro _ m h
  cases (show none = some m from h)

theorem RequestLength.identify (tag : Byte) : RequestLength.Statement (.identify tag) := by
  intro _ m h
  obtain rfl := Option.some.inj h
  exact ⟨by simp; rfl, by simp [Config.maxBody]⟩

theorem RequestLength.status (tag : Byte) : RequestLength.Statement (.status tag) := by
  intro _ m h
  obtain rfl := Option.some.inj h
  exact ⟨by simp; rfl, by simp [Config.maxBody]⟩

theorem RequestLength.setNotices (tag : Byte) (mask : Byte) : RequestLength.Statement (.setNotices tag mask) := by
  intro _ m h
  obtain rfl := Option.some.inj h
  exact ⟨by simp; rfl, by simp [Config.maxBody]⟩

theorem RequestLength.getConfig (tag : Byte) (group : Byte) : RequestLength.Statement (.getConfig tag group) := by
  intro _ m h
  obtain rfl := Option.some.inj h
  exact ⟨by simp; rfl, by simp [Config.maxBody]⟩

theorem RequestLength.home (tag : Byte) : RequestLength.Statement (.home tag) := by
  intro _ m h
  obtain rfl := Option.some.inj h
  exact ⟨by simp; rfl, by simp [Config.maxBody]⟩

theorem RequestLength.start (tag : Byte) : RequestLength.Statement (.start tag) := by
  intro _ m h
  obtain rfl := Option.some.inj h
  exact ⟨by simp; rfl, by simp [Config.maxBody]⟩

theorem RequestLength.stop (tag : Byte) : RequestLength.Statement (.stop tag) := by
  intro _ m h
  obtain rfl := Option.some.inj h
  exact ⟨by simp; rfl, by simp [Config.maxBody]⟩

theorem RequestLength.point (tag : Byte) (position : Word32) (blockLength : Word16) : RequestLength.Statement (.point tag position blockLength) := by
  intro _ m h
  obtain rfl := Option.some.inj h
  exact ⟨by simp; rfl, by simp [Config.maxBody]⟩

theorem RequestLength.standardize (tag : Byte) (unconditional : Byte) : RequestLength.Statement (.standardize tag unconditional) := by
  intro _ m h
  obtain rfl := Option.some.inj h
  exact ⟨by simp; rfl, by simp [Config.maxBody]⟩

theorem RequestLength.setFrame (tag : Byte) (body : FrameBody) : RequestLength.Statement (.setFrame tag body) := by
  intro _ m h
  obtain rfl := Option.some.inj h
  exact ⟨by simp; rfl, by simp [Config.maxBody]⟩

theorem RequestLength.setLink (tag : Byte) (samplePeriod : Word16) : RequestLength.Statement (.setLink tag samplePeriod) := by
  intro _ m h
  obtain rfl := Option.some.inj h
  exact ⟨by simp; rfl, by simp [Config.maxBody]⟩

theorem RequestLength.setSlot (tag : Byte) (body : SlotBody) : RequestLength.Statement (.setSlot tag body) := by
  intro _ m h
  obtain rfl := Option.some.inj h
  exact ⟨by simp; rfl, by simp [Config.maxBody]⟩

theorem RequestLength.setCurve (tag : Byte) (body : CurveBody) : RequestLength.Statement (.setCurve tag body) := by
  intro w m h
  have hw : body.points.length ≤ 204 := of_decide_eq_true w
  obtain rfl := Option.some.inj h
  have hc := curveCount_bytes body (by omega)
  refine ⟨?_, by simp [Config.maxBody]; omega⟩
  show some (2 + 5 * curveCount body.bytes) = some body.bytes.length
  rw [hc, CurveBody.bytes_length]

theorem RequestLength.setStd (tag : Byte) (body : StdBody) : RequestLength.Statement (.setStd tag body) := by
  intro _ m h
  obtain rfl := Option.some.inj h
  exact ⟨by simp; rfl, by simp [Config.maxBody]⟩

theorem RequestLength.setLayout (tag : Byte) (body : LayoutBody) : RequestLength.Statement (.setLayout tag body) := by
  intro _ m h
  obtain rfl := Option.some.inj h
  exact ⟨by simp; rfl, by simp [Config.maxBody]⟩

theorem RequestLength.setZone (tag : Byte) (body : ZoneBody) : RequestLength.Statement (.setZone tag body) := by
  intro _ m h
  obtain rfl := Option.some.inj h
  exact ⟨by simp; rfl, by simp [Config.maxBody]⟩

theorem RequestLength.setFilter (tag : Byte) (body : FilterBody) : RequestLength.Statement (.setFilter tag body) := by
  intro _ m h
  obtain rfl := Option.some.inj h
  exact ⟨by simp; rfl, by simp [Config.maxBody]⟩

theorem RequestLength.setSheet (tag : Byte) (body : SheetBody) : RequestLength.Statement (.setSheet tag body) := by
  intro _ m h
  obtain rfl := Option.some.inj h
  exact ⟨by simp; rfl, by simp [Config.maxBody]⟩

theorem RequestLength.setWatch (tag : Byte) (body : WatchBody) : RequestLength.Statement (.setWatch tag body) := by
  intro _ m h
  obtain rfl := Option.some.inj h
  exact ⟨by simp; rfl, by simp [Config.maxBody]⟩

theorem RequestLength.setAlarm (tag : Byte) (source : Byte) (reactions : Byte) : RequestLength.Statement (.setAlarm tag source reactions) := by
  intro _ m h
  obtain rfl := Option.some.inj h
  exact ⟨by simp; rfl, by simp [Config.maxBody]⟩

theorem RequestLength.readProfile (tag : Byte) (channel : Byte) (form : Byte) (firstBox : Word16) (count : Word16) : RequestLength.Statement (.readProfile tag channel form firstBox count) := by
  intro _ m h
  obtain rfl := Option.some.inj h
  exact ⟨by simp; rfl, by simp [Config.maxBody]⟩

theorem RequestLength.readHistory (tag : Byte) (first : Word32) (count : Byte) : RequestLength.Statement (.readHistory tag first count) := by
  intro _ m h
  obtain rfl := Option.some.inj h
  exact ⟨by simp; rfl, by simp [Config.maxBody]⟩

theorem RequestLength.readPoint (tag : Byte) (first : Word32) (count : Byte) : RequestLength.Statement (.readPoint tag first count) := by
  intro _ m h
  obtain rfl := Option.some.inj h
  exact ⟨by simp; rfl, by simp [Config.maxBody]⟩

theorem RequestLength.readHousekeeping (tag : Byte) (first : Byte) (count : Byte) : RequestLength.Statement (.readHousekeeping tag first count) := by
  intro _ m h
  obtain rfl := Option.some.inj h
  exact ⟨by simp; rfl, by simp [Config.maxBody]⟩

theorem RequestLength.readStd (tag : Byte) : RequestLength.Statement (.readStd tag) := by
  intro _ m h
  obtain rfl := Option.some.inj h
  exact ⟨by simp; rfl, by simp [Config.maxBody]⟩

theorem RequestLength.readEdges (tag : Byte) : RequestLength.Statement (.readEdges tag) := by
  intro _ m h
  obtain rfl := Option.some.inj h
  exact ⟨by simp; rfl, by simp [Config.maxBody]⟩

theorem RequestLength.readAlarms (tag : Byte) : RequestLength.Statement (.readAlarms tag) := by
  intro _ m h
  obtain rfl := Option.some.inj h
  exact ⟨by simp; rfl, by simp [Config.maxBody]⟩

theorem RequestLength.ack (tag : Byte) (source : Byte) : RequestLength.Statement (.ack tag source) := by
  intro _ m h
  obtain rfl := Option.some.inj h
  exact ⟨by simp; rfl, by simp [Config.maxBody]⟩

theorem RequestLength.drill (tag : Byte) (source : Byte) : RequestLength.Statement (.drill tag source) := by
  intro _ m h
  obtain rfl := Option.some.inj h
  exact ⟨by simp; rfl, by simp [Config.maxBody]⟩

theorem RequestLength.encoderTransition (a b : Bool) : RequestLength.Statement (.encoderTransition a b) := by
  intro _ m h
  cases (show none = some m from h)

theorem RequestLength.illegalTransition : RequestLength.Statement .illegalTransition := by
  intro _ m h
  cases (show none = some m from h)

theorem RequestLength.indexPass : RequestLength.Statement .indexPass := by
  intro _ m h
  cases (show none = some m from h)

theorem RequestLength.motionTick (homeSw : Bool) : RequestLength.Statement (.motionTick homeSw) := by
  intro _ m h
  cases (show none = some m from h)

theorem RequestLength.reverseDwellExpiry : RequestLength.Statement .reverseDwellExpiry := by
  intro _ m h
  cases (show none = some m from h)

theorem RequestLength.stallTimeout : RequestLength.Statement .stallTimeout := by
  intro _ m h
  cases (show none = some m from h)

theorem RequestLength.moveTimeout : RequestLength.Statement .moveTimeout := by
  intro _ m h
  cases (show none = some m from h)

theorem RequestLength.drvReadyChange (level : Bool) : RequestLength.Statement (.drvReadyChange level) := by
  intro _ m h
  cases (show none = some m from h)

theorem RequestLength.driveReadyWatchExpiry : RequestLength.Statement .driveReadyWatchExpiry := by
  intro _ m h
  cases (show none = some m from h)

theorem RequestLength.limitAssert (line : LimitLine) : RequestLength.Statement (.limitAssert line) := by
  intro _ m h
  cases (show none = some m from h)

theorem RequestLength.limitRelease (line : LimitLine) : RequestLength.Statement (.limitRelease line) := by
  intro _ m h
  cases (show none = some m from h)

theorem RequestLength.sync : RequestLength.Statement .sync := by
  intro _ m h
  cases (show none = some m from h)

theorem RequestLength.frameReceived (bits : BitVec 25) : RequestLength.Statement (.frameReceived bits) := by
  intro _ m h
  cases (show none = some m from h)

theorem RequestLength.stdPhaseTimerExpiry : RequestLength.Statement .stdPhaseTimerExpiry := by
  intro _ m h
  cases (show none = some m from h)

theorem RequestLength.stdTimeout : RequestLength.Statement .stdTimeout := by
  intro _ m h
  cases (show none = some m from h)

theorem RequestLength.uptimeSecond : RequestLength.Statement .uptimeSecond := by
  intro _ m h
  cases (show none = some m from h)

theorem RequestLength.breakInChange (level : Bool) : RequestLength.Statement (.breakInChange level) := by
  intro _ m h
  cases (show none = some m from h)

theorem RequestLength.breakDebounceExpiry : RequestLength.Statement .breakDebounceExpiry := by
  intro _ m h
  cases (show none = some m from h)

theorem RequestLength.holdoffExpiry : RequestLength.Statement .holdoffExpiry := by
  intro _ m h
  cases (show none = some m from h)

theorem RequestLength.alarmSenseChange (level : Bool) : RequestLength.Statement (.alarmSenseChange level) := by
  intro _ m h
  cases (show none = some m from h)

theorem RequestLength.lineReadbackExpiry : RequestLength.Statement .lineReadbackExpiry := by
  intro _ m h
  cases (show none = some m from h)

theorem RequestLength.startBit (timeNs : Nat) (stillLow : Bool) : RequestLength.Statement (.startBit timeNs stillLow) := by
  intro _ m h
  cases (show none = some m from h)

theorem RequestLength.indexLineFall : RequestLength.Statement .indexLineFall := by
  intro _ m h
  cases (show none = some m from h)

end Sys2Proof.Laws
end

