-- ==== Sys2Proof/Laws/RequestFrames.lean ====
section
/-! SUPPORT. What each request's handler changes, and what placing its answer changes. -/

namespace Sys2Proof.Machine

/-! ### Answers and the request step -/

theorem changes_placeAnswer (kind tag : Byte) (p : Answer × State) :
    ChangesOnly [.notices, .answers] p.2 (placeAnswer kind tag p) := by
  unfold placeAnswer
  split
  · exact changes_setLink _ _ rfl
  · exact changes_setLink _ _ rfl

/-- A request that finds the link free is dispatched at once (R186). -/
theorem requestStep_of_free (kind tag : Byte) (body : List Byte) (h : Handler) (s : State) (free : s.linkFree)
    (fits : body.length ≤ Config.maxBody) : requestStep kind tag body h s = placeAnswer kind tag (h s) := by
  simp [requestStep, State.canDispatch, free.1, free.2.1, free.2.2, Nat.not_lt.mpr fits]

theorem State.linkFree_nextEvent {s : State} (h : s.linkFree) : s.nextEvent.linkFree := h

theorem State.settled_nextEvent {s : State} (h : s.settled) : s.nextEvent.settled := h

/-! ### Handlers -/

theorem changes_handleIdentify (s : State) : ChangesOnly [] s (handleIdentify s).2 := .refl _ _
theorem changes_handleStatus (s : State) : ChangesOnly [] s (handleStatus s).2 := .refl _ _
theorem changes_handleReadStd (s : State) : ChangesOnly [] s (handleReadStd s).2 := .refl _ _
theorem changes_handleReadEdges (s : State) : ChangesOnly [] s (handleReadEdges s).2 := .refl _ _
theorem changes_handleReadAlarms (s : State) : ChangesOnly [] s (handleReadAlarms s).2 := .refl _ _
theorem changes_handleReadHistory (f : Word32) (n : Byte) (s : State) :
    ChangesOnly [] s (handleReadHistory f n s).2 := .refl _ _
theorem changes_handleReadPoint (f : Word32) (n : Byte) (s : State) : ChangesOnly [] s (handleReadPoint f n s).2 :=
  .refl _ _
theorem changes_handleReadHousekeeping (f n : Byte) (s : State) :
    ChangesOnly [] s (handleReadHousekeeping f n s).2 := .refl _ _

theorem changes_handleGetConfig (g : Byte) (s : State) : ChangesOnly [] s (handleGetConfig g s).2 := by
  unfold handleGetConfig
  split
  · exact .refl _ _
  · exact .refl _ _

theorem changes_handleReadProfile (c f : Byte) (b n : Word16) (s : State) :
    ChangesOnly [.profile] s (handleReadProfile c f b n s).2 := by
  unfold handleReadProfile
  split
  · split
    · exact .refl _ _
    · split
      · exact .refl _ _
      · exact changes_setProfile ..
  · exact .refl _ _

theorem changes_beginHoming (s : State) :
    ChangesOnly [.position, .traverse, .edges, .alarms, .notices] s (beginHoming s) :=
  (((changes_setPosition s _).trans (changes_setTraverse _ _)).trans (changes_enter _ _ _)).mono (by simp)

theorem changes_handleHome (s : State) : ChangesOnly motionParts s (handleHome s).2 := by
  unfold handleHome
  split
  · exact .refl _ _
  · split
    · exact .refl _ _
    · split
      · exact .refl _ _
      · exact (changes_beginHoming s).mono (by simp [motionParts])

theorem changes_clearAttempts (s : State) : ChangesOnly [.traverse] s (clearAttempts s) := changes_setTraverse ..

theorem changes_startApproach (s : State) : ChangesOnly motionParts s (startApproach s) := by
  have h1 (u : State) : ChangesOnly motionParts u (approach .host (clearAttempts u)) :=
    ((changes_clearAttempts u).trans (changes_approach _ _)).mono (by simp [motionParts])
  have h2 (old : TravState) (c : AbandonCause) (d : DwellEnd) (u : State) :
      ChangesOnly motionParts u (endRunning old c d u) :=
    (changes_endRunning _ _ _ u).mono (by simp [motionParts])
  unfold startApproach
  exact ((ChangesOnly.ite ((changes_breakResume s).mono (by simp [motionParts])) (.refl _ _)).then (h1 _)).then
    (h2 _ _ _ _)

theorem changes_handleStart (s : State) : ChangesOnly motionParts s (handleStart s).2 := by
  have h1 (st : TravState) : ChangesOnly motionParts s (clearAttempts (relabel st (some .host) s)) :=
    ((changes_relabel _ _ s).trans (changes_clearAttempts _)).mono (by simp [motionParts])
  have h2 : ChangesOnly motionParts s (clearAttempts s) := (changes_clearAttempts s).mono (by simp [motionParts])
  unfold handleStart
  split
  · exact .refl _ _
  · split
    · exact .refl _ _
    · unfold startByState
      split
      · exact .refl _ _
      · exact .refl _ _
      · exact .refl _ _
      · exact h2
      · exact h2
      · exact h1 _
      · exact h2
      · exact changes_startApproach s
      · exact changes_startApproach s
      · split
        · exact .refl _ _
        · split
          · exact h1 _
          · exact h2
          · exact h2
          · exact changes_startApproach s
          · exact changes_startApproach s

theorem changes_stopRunning (s : State) : ChangesOnly motionParts s (stopRunning s) :=
  ((changes_beginPark _ _ s).trans (changes_endRunning _ _ _ _)).mono (by simp [motionParts])

theorem changes_handleStop (s : State) : ChangesOnly motionParts s (handleStop s).2 := by
  unfold handleStop
  split
  · exact .refl _ _
  · exact .refl _ _
  · exact (changes_endHoming s).mono (by simp [motionParts])
  · split
    · exact .refl _ _
    · split
      · exact (changes_beginPark _ _ s).mono (by simp [motionParts])
      · exact (changes_enter _ _ s).mono (by simp [motionParts])
  · split
    · exact .refl _ _
    · split
      · exact (changes_relabel _ _ s).mono (by simp [motionParts])
      · exact changes_stopRunning s
  · exact changes_stopRunning s

theorem changes_beginPoint (p : Int) (n : Nat) (s : State) : ChangesOnly motionParts s (beginPoint p n s) :=
  ((changes_beginMove _ _ _ s).trans (changes_endRunning _ _ _ _)).mono (by simp [motionParts])

theorem changes_pendLength (n : Nat) (s : State) : ChangesOnly [.point] s (pendLength n s) := by
  unfold pendLength
  split
  · exact .ite (.refl _ _) (changes_setDwell _ _)
  · exact .refl _ _

theorem changes_handlePoint (p : Word32) (n : Word16) (s : State) : ChangesOnly motionParts s (handlePoint p n s).2 := by
  unfold handlePoint
  simp only
  split
  · exact .refl _ _
  · split
    · exact .refl _ _
    · split
      · exact .refl _ _
      · unfold pointByState
        split
        · exact .refl _ _
        · exact .refl _ _
        · exact .refl _ _
        · split
          · exact .refl _ _
          · exact changes_beginPoint ..
        · split
          · exact (changes_pendLength _ s).mono (by simp [motionParts])
          · exact changes_beginPoint ..
        · exact changes_beginPoint ..

theorem changes_requestStandardize (u : Bool) (s : State) :
    ChangesOnly [.standardize] s (requestStandardize u s) := changes_setStandardize ..

theorem changes_handleStandardize (u : Byte) (s : State) :
    ChangesOnly motionParts s (handleStandardize u s).2 := by
  have h1 (b : Bool) : ChangesOnly motionParts s (requestStandardize b s) :=
    (changes_requestStandardize b s).mono (by simp [motionParts])
  unfold handleStandardize
  split
  · exact .refl _ _
  · unfold standardizeByState
    split
    · exact .refl _ _
    · exact .refl _ _
    · exact .refl _ _
    · exact .refl _ _
    · split
      · exact (h1 _).then ((changes_beginMove _ _ _ _).mono (by simp [motionParts]))
      · exact .refl _ _
    · exact h1 _
    · exact h1 _
    · exact .refl _ _
    · split
      · exact .refl _ _
      · exact .refl _ _
      · exact h1 _
      · exact h1 _

theorem changes_applyFrame (f : FrameConfig) (s : State) : ChangesOnly motionParts s (applyFrame f s) := by
  have h (x : PositionUnit) : ChangesOnly motionParts s (s.setPosition x) :=
    (changes_setPosition s x).mono (by simp [motionParts])
  unfold applyFrame
  exact ChangesOnly.ite ((h _).then (changes_loseReference _)) (h _)

theorem changes_handleSetFrame (b : FrameBody) (s : State) : ChangesOnly motionParts s (handleSetFrame b s).2 := by
  unfold handleSetFrame
  split
  · exact .refl _ _
  · split
    · exact .refl _ _
    · exact changes_applyFrame ..

/-- What the settings of the head link may change. -/
def linkParts : List Part := [.position, .headLink, .conversion, .alarms, .notices]

theorem changes_handleSetLink (p : Word16) (s : State) : ChangesOnly linkParts s (handleSetLink p s).2 := by
  unfold handleSetLink
  split
  · exact .refl _ _
  · split
    · exact .refl _ _
    · split
      · exact .refl _ _
      · split
        · exact .refl _ _
        · exact (((changes_setPosition s _).trans (changes_setHeadLink _ _)).trans (changes_judgeFaults _)).mono
            (by simp [linkParts])

theorem changes_applySlot (k : Fin 4) (c : SlotConfig) (s : State) : ChangesOnly linkParts s (applySlot k c s) := by
  have h1 (x : HeadLink) : ChangesOnly linkParts s (judgeWatches (judgeFaults (s.setHeadLink x))) :=
    (((changes_setHeadLink s x).trans (changes_judgeFaults _)).trans (changes_judgeWatches _)).mono
      (by simp [linkParts])
  unfold applySlot
  exact (h1 _).then (.ite ((changes_setConversion _ _).mono (by simp [linkParts])) (.refl _ _))

theorem changes_handleSetSlot (b : SlotBody) (s : State) : ChangesOnly linkParts s (handleSetSlot b s).2 := by
  unfold handleSetSlot
  split
  · exact .refl _ _
  · split
    · exact .refl _ _
    · split
      · exact changes_applySlot ..
      · exact .refl _ _

theorem changes_handleSetWatch (b : WatchBody) (s : State) :
    ChangesOnly [.headLink, .alarms, .notices] s (handleSetWatch b s).2 := by
  unfold handleSetWatch
  split
  · exact .refl _ _
  · exact ((changes_setHeadLink s _).trans (changes_judgeWatches _)).mono (by simp)

theorem changes_handleSetCurve (b : CurveBody) (s : State) :
    ChangesOnly [.conversion, .profile] s (handleSetCurve b s).2 := by
  unfold handleSetCurve
  split
  · exact .refl _ _
  · split
    · exact (changes_setConversion s _).mono (by simp)
    · exact changes_applyCurve ..

theorem changes_handleSetStd (b : StdBody) (s : State) : ChangesOnly [.standardize] s (handleSetStd b s).2 := by
  unfold handleSetStd
  split
  · exact .refl _ _
  · exact changes_setStandardize ..

theorem changes_handleSetLayout (b : LayoutBody) (s : State) :
    ChangesOnly [.boxes, .profile] s (handleSetLayout b s).2 := by
  unfold handleSetLayout
  split
  · exact .refl _ _
  · split
    · exact (changes_setBoxes s _).mono (by simp)
    · exact changes_applyLayout ..

theorem changes_handleSetZone (b : ZoneBody) (s : State) : ChangesOnly [.boxes] s (handleSetZone b s).2 := by
  unfold handleSetZone
  split
  · exact .refl _ _
  · split
    · exact changes_setBoxes ..
    · exact changes_setBoxes ..

theorem changes_handleSetFilter (b : FilterBody) (s : State) : ChangesOnly [.profile] s (handleSetFilter b s).2 := by
  unfold handleSetFilter
  split
  · exact .refl _ _
  · exact changes_setProfile ..

theorem changes_handleSetSheet (b : SheetBody) (s : State) :
    ChangesOnly [.conversion, .edges] s (handleSetSheet b s).2 := by
  unfold handleSetSheet
  split
  · exact .refl _ _
  · exact (changes_setConversion s _).trans (changes_setEdges _ _)

theorem changes_applyReactions (i : Fin 16) (r : Reactions) (s : State) :
    ChangesOnly [.alarms, .notices] s (applyReactions i r s) := by
  unfold applyReactions
  simp only
  split
  · exact (changes_setAlarms s _).mono (by simp)
  · exact (((changes_setAlarms s _).trans (changes_setEntry _ _ _)).trans (changes_judgeLine _)).mono (by simp)

theorem changes_handleSetAlarm (a b : Byte) (s : State) :
    ChangesOnly [.alarms, .notices] s (handleSetAlarm a b s).2 := by
  unfold handleSetAlarm
  split
  · split
    · exact changes_applyReactions ..
    · exact .refl _ _
  · exact .refl _ _

theorem changes_handleAck (a : Byte) (s : State) : ChangesOnly [.alarms, .notices] s (handleAck a s).2 := by
  have h := changes_ackAll s
  unfold handleAck
  generalize ackAll s = u at h ⊢
  split
  · exact h
  · split
    · exact .refl _ _
    · exact changes_ackSource ..

theorem changes_handleDrill (a : Byte) (s : State) : ChangesOnly [.alarms, .notices] s (handleDrill a s).2 := by
  unfold handleDrill
  split
  · exact .refl _ _
  · exact changes_raiseDrill ..

end Sys2Proof.Machine
end

