-- ==== Sys2Proof/Laws/Tables.lean ====
section
/-! SUPPORT. The laws of the model's vectors and sparse tables: reading an entry of `tabulate`, and that `put`
writes one entry, keeps every other, and keeps the canonical form. -/

namespace Sys2Proof.Machine

variable {α : Type}

@[simp] theorem tabulate_getElem {n : Nat} (f : Fin n → α) (i : Nat) (h : i < n) :
    (tabulate n f)[i] = f ⟨i, h⟩ := by simp [tabulate]

theorem tabulate_getElem_fin {n : Nat} (f : Fin n → α) (i : Fin n) : (tabulate n f)[i] = f i := by simp

/-! ### Reading -/

@[simp] theorem Table.get_nil (d : α) (i : Nat) : Table.get d [] i = d := rfl

theorem Table.get_cons (d : α) (e : Nat × α) (t : Table α) (i : Nat) :
    Table.get d (e :: t) i = if e.1 = i then e.2 else Table.get d t i := rfl

/-- A table reads as its default at an index it does not list. -/
theorem Table.get_of_absent (d : α) (t : Table α) (i : Nat) (h : ∀ e ∈ t, e.1 ≠ i) : Table.get d t i = d := by
  induction t with
  | nil => rfl
  | cons e t ih =>
    rw [Table.get_cons, if_neg (h e (by simp)), ih fun x hx => h x (by simp [hx])]

theorem Table.get_filter_ne (d : α) (t : Table α) (i j : Nat) (h : j ≠ i) :
    Table.get d (t.filter fun e => e.1 ≠ i) j = Table.get d t j := by
  induction t with
  | nil => rfl
  | cons e t ih =>
    by_cases he : e.1 = i
    · rw [List.filter_cons_of_neg (by simp [he]), ih, Table.get_cons, if_neg (by omega)]
    · rw [List.filter_cons_of_pos (by simp [he]), Table.get_cons, Table.get_cons, ih]

theorem Table.get_insert (d : α) (t : Table α) (i j : Nat) (v : α) (h : ∀ e ∈ t, e.1 ≠ i) :
    Table.get d (Table.insert i v t) j = if j = i then v else Table.get d t j := by
  induction t with
  | nil => simp [Table.insert, Table.get_cons, eq_comm]
  | cons e t ih =>
    have he : e.1 ≠ i := h e (by simp)
    simp only [Table.insert]
    split
    · simp [Table.get_cons, eq_comm]
    · rw [Table.get_cons, ih fun x hx => h x (by simp [hx]), Table.get_cons]
      by_cases hj : j = i
      · simp [hj, he]
      · simp [hj]

/-- A read after a put gives the value put, and every other index reads as before. -/
theorem Table.get_put [DecidableEq α] (d : α) (t : Table α) (i j : Nat) (v : α) :
    Table.get d (t.put d i v) j = if j = i then v else Table.get d t j := by
  have away : ∀ e ∈ t.filter (fun e => e.1 ≠ i), e.1 ≠ i := by simp
  unfold Table.put
  by_cases hv : v = d
  · rw [if_pos hv]
    by_cases hj : j = i
    · rw [hj, if_pos rfl, Table.get_of_absent d _ i away, hv]
    · rw [if_neg hj, Table.get_filter_ne d t i j hj]
  · rw [if_neg hv, Table.get_insert d _ i j v away]
    by_cases hj : j = i
    · simp [hj]
    · rw [if_neg hj, if_neg hj, Table.get_filter_ne d t i j hj]

@[simp] theorem Table.get_put_self [DecidableEq α] (d : α) (t : Table α) (i : Nat) (v : α) :
    Table.get d (t.put d i v) i = v := by simp [Table.get_put]

theorem Table.get_put_ne [DecidableEq α] (d : α) (t : Table α) {i j : Nat} (v : α) (h : j ≠ i) :
    Table.get d (t.put d i v) j = Table.get d t j := by simp [Table.get_put, h]

/-! ### The canonical form -/

@[simp] theorem Table.wf_nil [DecidableEq α] (d : α) : Table.wf d ([] : Table α) = true := by simp [Table.wf]

theorem Table.wf_iff [DecidableEq α] (d : α) (t : Table α) :
    Table.wf d t = true ↔ t.Pairwise (fun a b => a.1 < b.1) ∧ ∀ e ∈ t, e.2 ≠ d := by
  simp [Table.wf]

theorem Table.mem_insert (i : Nat) (v : α) (t : Table α) (e : Nat × α) :
    e ∈ Table.insert i v t ↔ e = (i, v) ∨ e ∈ t := by
  induction t with
  | nil => simp [Table.insert]
  | cons x t ih =>
    simp only [Table.insert]
    split
    · simp
    · simp only [List.mem_cons, ih]
      tauto

theorem Table.pairwise_insert (i : Nat) (v : α) (t : Table α) (h : t.Pairwise fun a b => a.1 < b.1)
    (hi : ∀ e ∈ t, e.1 ≠ i) : (Table.insert i v t).Pairwise fun a b => a.1 < b.1 := by
  induction t with
  | nil => simp [Table.insert]
  | cons x t ih =>
    have hx : x.1 ≠ i := hi x (by simp)
    rw [List.pairwise_cons] at h
    simp only [Table.insert]
    split
    · rename_i hlt
      refine List.pairwise_cons.2 ⟨?_, List.pairwise_cons.2 h⟩
      intro e he
      rcases List.mem_cons.1 he with rfl | he
      · exact hlt
      · exact lt_trans hlt (h.1 e he)
    · rename_i hge
      refine List.pairwise_cons.2 ⟨?_, ih h.2 fun e he => hi e (by simp [he])⟩
      intro e he
      rcases (Table.mem_insert i v t e).1 he with rfl | he
      · show x.1 < i
        have : ¬i < x.1 := hge
        omega
      · exact h.1 e he

/-- Putting a value keeps the canonical form. -/
theorem Table.wf_put [DecidableEq α] (d : α) (t : Table α) (i : Nat) (v : α) (h : Table.wf d t = true) :
    Table.wf d (t.put d i v) = true := by
  rw [Table.wf_iff] at h ⊢
  have hp : (t.filter fun e => e.1 ≠ i).Pairwise fun a b => a.1 < b.1 := h.1.sublist List.filter_sublist
  have hm : ∀ e ∈ t.filter (fun e => e.1 ≠ i), e.2 ≠ d := fun e he => h.2 e (List.mem_of_mem_filter he)
  unfold Table.put
  by_cases hv : v = d
  · rw [if_pos hv]; exact ⟨hp, hm⟩
  · rw [if_neg hv]
    refine ⟨Table.pairwise_insert i v _ hp (by simp), fun e he => ?_⟩
    rcases (Table.mem_insert i v _ e).1 he with rfl | he
    · exact hv
    · exact hm e he

end Sys2Proof.Machine
end

