-- ==== Sys2Proof/Tests/Slice0.lean ====
section
/-! SUPPORT. The tests: what WellFormed refuses, the worked examples of the spec, and for every statement with
hypotheses a concrete state and operands that meet them, clause by clause, at the boundary where there is one. -/

namespace Sys2Proof.Tests

-- One test after the other: checked side by side, the seventy kernel evaluations below each hold a thread of
-- their own, and with all of Mathlib loaded the threads do not fit into the data limit of the joined check.
set_option Elab.async false

open Sys2Proof Sys2Proof.Machine

/-! ### Small states -/

/-- The frame of 12.1. -/
def frame : FrameConfig :=
  { FrameConfig.cold with
    travelMin := 2000, travelMax := 148000, homePosition := 1200, parkPosition := 2500, stdPosition := 2200 }

/-- The curve of 4.8. -/
def curve : Curve := [(20000, 6000), (24000, 4200), (28000, 2600), (32768, 0)]

/-- The accepted standardize of 4.8. -/
def accepted : StdAccepted where
  dark := 412
  ref := 52412
  acceptedAt := 0

/-- The layout of 6.11. -/
def layout : Layout where
  mode := .fixed
  boxes := 640
  origin := 4000
  width := 150

/-- A slot in use, with its window of 3.10. -/
def slotAt (kind : SlotKind) (start lag : Nat) : SlotConfig :=
  { SlotConfig.cold kind with enabled := true, windowStart := start, windowLength := 60, lag := lag }

/-- A history entry. -/
def entry (seq : Word16) (p : Int) (scan : Option Nat) : HistEntry where
  seq := seq
  position := p
  scan := scan
  shutterOpen := true

/-- PARKED with cause HOST, ready to scan: slots 0 (WEIGHT) and 1 (WATER) in use, a period of 1,000 µs. -/
def parked : State :=
  let s := State.reset
  { s with
    position :=
      { s.position with reference := .referenced, frame := frame, configured := true, counter := 2500 }
    traverse := { s.traverse with state := .parked .host, drvEn := true }
    headLink :=
      { s.headLink with
        period := some 1000, nextSeq := 7201
        slots := #v[slotAt .weight 100 3, slotAt .water 200 5, SlotConfig.cold .aux, SlotConfig.cold .aux]
        links := tabulate 4 fun k => { SlotLink.cold with unsettled := decide (k.val < 2) } }
    conversion := { s.conversion with curves := #v[some curve, some curve, none, none] }
    standardize :=
      { s.standardize with
        records := tabulate 4 fun k =>
          if k.val < 2 then { StdRecord.cold with accepted := some accepted, acceptedCount := 1 }
          else StdRecord.cold }
    boxes := { s.boxes with layout := some layout, generation := 7 } }

/-- A state with another traverse state and holder. -/
def inState (s : State) (st : TravState) (holder : Option Claim) : State :=
  s.setTraverse { s.traverse with state := st, holder := holder, drvEn := st.driveOn, shutter := st.opensShutter }

/-- The Traverse Controller changed. -/
def withTraverse (s : State) (f : Traverse → Traverse) : State := s.setTraverse (f s.traverse)

/-- The position counter changed. -/
def atCount (s : State) (n : Nat) : State := s.setPosition { s.position with counter := BitVec.ofNat 32 n }

/-- One alarm entry in a state, unmarked. -/
def withAlarm (s : State) (i : Fin 16) (a : AlarmState) : State :=
  setEntry i { AlarmEntry.cold with state := a, count := 1 } s

/-- The Link Controller changed. -/
def withLink (s : State) (f : LinkController → LinkController) : State := s.setLink (f s.link)

/-- The Edge and Break Monitor changed. -/
def withEdges (s : State) (f : EdgeMonitor → EdgeMonitor) : State := s.setEdges (f s.edges)

/-- The Head Link Controller changed. -/
def withHeadLink (s : State) (f : HeadLink → HeadLink) : State := s.setHeadLink (f s.headLink)

/-- The Profile Unit changed. -/
def withProfile (s : State) (f : ProfileUnit → ProfileUnit) : State := s.setProfile (f s.profile)

/-- Scan 57 of 2.15, FWD at 8,000 ticks/s toward 142,300. -/
def scanning : State :=
  let s := inState (atCount parked 140384) .traversing (some .scanProgram)
  { s with
    traverse :=
      { s.traverse with
        runningScan := some 57, speed := 8000, driveDir := .fwd, duty := 2730, turnPoint := some 142300 }
    profile :=
      { s.profile with
        nextScan := 58
        context := some
          { scan := 57, dir := .fwd, startPosition := 22004, millis := 14000, channels := 0b10011
            waterSlot := some 1, generation := 7, layout := layout, map := .fixed, stdExpired := false
            turnExtended := true } }
    boxes :=
      { s.boxes with
        context := some { scan := 57, dir := .fwd, layout := layout, map := .fixed }
        accumulators := #v[[(322, ⟨21130, 5⟩)], [(322, ⟨1690, 5⟩)], [], []] }
    edges :=
      { s.edges with
        context := some
          { scan := 57, dir := .fwd, interior := some (23404, 139100), airSeen := true, sheetSeen := true
            leading := some 22404, lastPresent := some 140380, lastReading := some .present, holes := 0 }
        low := { state := .found, find := some (12400, 56), shift := none }
        high := { state := .found, find := some (140100, 56), shift := none } } }

/-- REVERSING after that scan, at rest with the dwell timer running. -/
def reversing : State :=
  withProfile
    (withTraverse (inState scanning .reversing (some .scanProgram)) fun t =>
      { t with runningScan := none, speed := 0, duty := 0, dwellTimer := some 100 })
    fun p => { p with context := none }

/-- A move that stands short of its target by a distance. -/
def moving (purpose : Purpose) (phase : MovePhase) (short : Int) (speed : Nat) : State :=
  withTraverse
    (inState (atCount parked 50000)
      (.positioning { purpose := purpose, target := 50000 + short, phase := phase }) (some .host))
    fun t => { t with speed := speed, driveDir := .fwd, moveTimer := some 120 }

/-- HOMING in a phase. -/
def homing (phase : HomingPhase) : State :=
  let s := withTraverse (inState parked (.homing phase) (some .host)) fun t => { t with moveTimer := some 120 }
  s.setPosition { s.position with reference := .unknown, captureArmed := decide (phase = .approach) }

/-- An open dwell at 75,000 with blocks of 500 (9.5). -/
def openPoint (syncs : Nat) : OpenDwell where
  target := 75000
  blockLength := 500
  pendingLength := some 200
  block := 2
  syncs := syncs
  channels := 0b11
  waterSlot := some 1
  sums := #v[⟨2112750, 500⟩, ⟨167648, 496⟩, Accumulator.zero, Accumulator.zero]
  presentCount := 497

/-- DWELLING with that dwell. -/
def dwelling (syncs : Nat) : State :=
  (inState (atCount parked 75001) .dwelling (some .host)).setPoint { ring := [], dwell := .opened (openPoint syncs) }

/-- A cycle of slot 1 alone, in a phase with a collection. -/
def cycleIn (phase : CyclePhase) (x : Collection) : Cycle where
  cause := .scheduled
  unconditional := false
  settings := StdSettings.cold
  phase := phase
  phaseTimer := if phase = .darkSettle ∨ phase = .refSettle then some 500 else none
  timeoutTimer := some 30
  startedAt := 0
  slots := #v[none, some x, none, none]

/-- STANDARDIZING with a cycle. -/
def cycling (c : Cycle) : State :=
  let s := inState parked (.standardizing .park) (some .host)
  s.setStandardize { s.standardize with cycle := some c }

/-- The carriage parked by a break, the hold-off in a state. -/
def broken (h : Holdoff) : State := withEdges (inState parked (.parked .brk) none) fun m => { m with holdoff := h }

/-- HALTED by LIMIT_HI, whose entry holds the line mark, with ALARM_OUT asserted and read back. -/
def limited : State :=
  let s := withTraverse (inState parked (.halted .limit) (some .halt)) fun t => { t with limitHi := true }
  (setEntry srcLimit
    { state := .active, count := 1, lineMark := true
      episode := some
        { firstUptime := 0, firstScan := none, lastUptime := 0, detail := some (.lines false true), drill := false } }
    (s.setAlarms { s.alarms with alarmOut := true, alarmSense := true }))

/-- An empty bank of a scan. -/
def bank (scan : Nat) : Bank where
  scan := scan
  dir := .fwd
  generation := 7
  layout := layout
  map := .fixed
  channels := #v[some { thin := true, validBoxes := 0, average := none, age := 0, boxes := [] }, none, none, none, none]

/-- Bank 0 published. -/
def published : State := withProfile parked fun p => { p with banks := #v[some (bank 56), none], published := some 0 }

/-- A record of the history, closed or abandoned. -/
def record (scan : Nat) (abandoned : Option AbandonCause) : ScanRecord where
  scan := scan
  dir := .fwd
  abandoned := abandoned
  startPosition := 22004
  endPosition := 140691
  duration := 14001
  generation := 7
  layout := layout
  map := .fixed
  stdExpired := false
  turnExtended := false
  holes := 0
  lowEdge := none
  highEdge := none
  parts := []

/-- A READ PROFILE in flight that holds bank 0, with bank 1 waiting, that of the newest COMPLETE record. -/
def reading : State :=
  withLink
    (withProfile published fun p =>
      { p with
        banks := #v[some (bank 56), some (bank 57)], held := some 0, waiting := some 1
        history := [record 56 none, record 57 none, record 58 (some .host)] })
    fun l =>
      { l with
        readout := some
          { kind := 0xB0, tag := 1, next := 1, first := none, source := .profile 0 false 250 390, ready := 4 } }

/-- A reply that waits. -/
def waiting : Waiting where
  message := { kind := 0x82, tag := 1, body := [0] }
  ready := 4

/-- A STATUS request. -/
def statusRequest : Message where
  kind := 0x02
  tag := 1
  body := []

/-- A state with requests in the queue. -/
def queued (n : Nat) (s : State) : State := withLink s fun l => { l with queue := List.replicate n statusRequest }

/-- A frame in reception. -/
def receiving (r : Reception) (s : State) : State := withHeadLink s fun h => { h with reception := some r }

/-- The 25 bits of a frame whose check is good. -/
def goodFrame (m d : Bool) (status : BitVec 2) (value : Word16) : BitVec 25 :=
  let bits : BitVec 20 := BitVec.ofBool m ++ BitVec.ofBool d ++ status ++ value
  bits ++ crc5 bits

/-- `State.settled`, written out so that Lean can decide it. -/
abbrev Settled (s : State) : Prop := s.alarms.claims = []

/-- `State.settled` and `State.linkFree`, written out. -/
abbrev Free (s : State) : Prop :=
  s.alarms.claims = [] ∧ s.link.slot = none ∧ s.link.readout = none ∧ s.link.queue = []

theorem settled_iff (s : State) : Settled s ↔ s.settled := Iff.rfl

theorem free_iff (s : State) : Free s ↔ s.settled ∧ s.linkFree := Iff.rfl

/-- What exec answers for an event that gives no claim. -/
theorem runs (f : State → State) (s : State) (h : (f s.nextEvent).alarms.claims = []) :
    event f s = .next (f s.nextEvent) := event_of_settled f s h

/-! ### What WellFormed refuses -/

/-- 205 breakpoints make a body of 1,027 bytes, which no frame holds (R182). -/
theorem test_long_curve_refused :
    (Instr.setCurve 0 ⟨0, List.replicate 205 ⟨0, 0⟩⟩).WellFormed = false ∧
    (Instr.setCurve 0 ⟨0, List.replicate 204 ⟨0, 0⟩⟩).WellFormed = true := by decide +kernel

/-- A start bit lies within a sample period of at most 4,000 µs (R47). -/
theorem test_late_start_bit_refused :
    (Instr.startBit 4000000 true).WellFormed = false ∧ (Instr.startBit 3999999 true).WellFormed = true := by decide

/-- No row of the table has bits, so no word spells a command. -/
theorem test_no_word_decodes : decodeTableWord 16 0x1234 = none := rfl

/-- 4,194,304 is one beyond the range of y, 4,194,303 its end (R71). -/
theorem test_curve_range :
    CurveBody.check ⟨0, [⟨0, 0⟩, ⟨1, 4194304⟩]⟩ = none ∧ CurveBody.check ⟨0, [⟨0, 0⟩, ⟨1, 4194303⟩]⟩ ≠ none := by
  decide +kernel

/-! ### The worked examples of the spec -/

/-- R183: the nine bytes 0x31 to 0x39 give 0x29B1. -/
theorem test_frame_check : crc16 [0x31, 0x32, 0x33, 0x34, 0x35, 0x36, 0x37, 0x38, 0x39] = 0x29B1 := by decide +kernel

/-- 2.15: BD(8,000) is 1,609 ticks, the duty of 8,000 is 2,730 and that of 100 is 34 (R20, R21). -/
theorem test_braking_and_duty :
    brakingDistance 20 8000 = 1609 ∧ dutyOf 12000 8000 = 2730 ∧ dutyOf 12000 100 = 34 := by decide +kernel

/-- Scan 57 at a count, its search context left out. -/
def cruising (n : Nat) : State := withEdges (atCount scanning n) fun m => { m with context := none }

/-- 2.15: scan 57 closes at 140,691, at its first braking tick, and its extension at 140,700 is refused. -/
theorem test_scan_closes_at_braking_distance :
    (motionTick false (cruising 140690)).traverse.state = .traversing ∧
    (motionTick false (cruising 140691)).traverse.state = .reversing ∧
    (motionTick false (cruising 140691)).traverse.speed = 7980 ∧
    (extendTurn 145000 (motionTick false (cruising 140691))).traverse.turnPoint = some 142300 := by
  decide +kernel

/-- 4.8: the weight reading of 38,412 is 42.25 g/m². -/
theorem test_weight_reading : normalize 38412 412 52412 = 23945 ∧ curveValue curve 23945 = 4225 := by decide +kernel

/-- 3.11: item 5 with value 195 has the check 11. -/
theorem test_slow_check : slowCheck 5 195 = 11 := by decide +kernel

/-- R101 and R102: the boxes of the two worked layouts. -/
theorem test_boxes :
    boxOf layout .fixed 52345 = some 322 ∧ boxOf layout .fixed 3999 = none ∧
    boxOf layout .fixed 99999 = some 639 ∧ boxOf layout .fixed 100000 = none ∧
    boxOf layout (.edges 12400 140100) 52345 = some 200 ∧ boxOf layout (.edges 12400 140100) 140100 = some 639 := by
  decide +kernel

/-- 7.14: a quarter step, a half step rounded away from zero, and the moisture. -/
theorem test_filter_and_moisture :
    filterStep 2 4210 9 4227 = 11 ∧ filterStep 2 4210 11 4227 = 13 ∧
    moistureValue (some 338) (some 4227) = some 800 := by decide +kernel

/-- The channel of 7.15 as scan 40 closes. -/
def sixBoxes : ClosedChannel :=
  closeChannel 0
    { values := [(0, -30), (1, -20), (2, 10), (3, 30), (4, 20)], stale := [(2, 1)], age := 1 }
    { k := 2, minCount := 3, minValid := 4, staleLimit := 2 }
    [some 4150, some 4175, none, some 4230, some 4220, none]

/-- 7.15: the filter, the stale counts, the states and the figures after scan 40. -/
theorem test_six_boxes :
    sixBoxes.filter = { values := [(0, -37), (1, -19), (2, 10), (3, 33), (4, 23)], stale := [(2, 2), (5, 1)], age := 2 } ∧
    sixBoxes.part =
      { channel := 0, thin := false, validBoxes := 4, average := some 4194, rangeVariance := some (80, 1067) } ∧
    sixBoxes.bank.boxes.map BankBox.state = [.valid, .valid, .void, .valid, .valid, .missing] := by
  decide +kernel

/-- Table 11-7 by hand: the MOTION notice of scan 57 at 140,384 ticks, TRAVERSING FWD and REFERENCED. -/
theorem test_motion_notice :
    scanning.motionBody = [5, 0, 0, 0, 0x60, 0x24, 0x02, 0x00, 1, 57, 0, 0, 0, 0] := by decide +kernel

/-- Tables 11-7 and 11-8 by hand: an illegal transition at 140,384 ticks in scan 57 at 14,400 s posts the ALARM notice
of ENCODER, and an index error of −655 at 52,345 is sent in two's complement. -/
theorem test_encoder_notice :
    ((raiseEvent srcEncoder (.transition 140384) (withLink scanning fun l => { l with uptime := 14400 })).link.notices.map
        QueuedNotice.body) =
      [[11, 3, 1, 1, 0x40, 0x38, 0, 0, 57, 0, 0, 0, 0x40, 0x38, 0, 0, 0, 0x60, 0x24, 0x02, 0x00, 0, 0, 0, 0, 0]] ∧
    (Detail.indexError 52345 (-655)).fields = [1, 0x79, 0xCC, 0, 0, 0x71, 0xFD, 0xFF, 0xFF] := by decide +kernel

/-- R189: a notice of a key that waits is refreshed in its place, and one of another key joins behind. -/
theorem test_notice_refreshed :
    let q := joinNotice .motion [2] 8 (joinNotice .scan [1] 7 (joinNotice .motion [0] 6 []))
    q.map (fun n => (n.key, n.body, n.joined)) = [(.motion, [2], 6), (.scan, [1], 7)] := by decide +kernel

/-! ### A state and operands that meet the hypotheses of each statement -/

/-- What `Posted` and `Reported` tell apart: a kind enabled, with and without a notice of the key that waits, and one
disabled; a source with REPORT. -/
theorem witness_Posted :
    (parked.link.mask.motion = true ∧ parked.link.notices = [] ∧ parked.alarms.sets[srcEncoder].report = true) ∧
    (let s := postMotion parked
     s.link.mask.motion = true ∧ (s.link.notices.any fun n => n.key = .motion) = true) ∧
    let s := withLink parked fun l => { l with mask := ⟨true, true, false, true⟩ }
    s.link.mask.motion = false := by decide +kernel

theorem witness_StepTakesFrontCommand : parked.pending = [] := rfl

theorem scanning_lines : DriveLaw scanning ∧ ShutterLaw scanning := by
  refine ⟨?_, ?_, fun _ => .inl rfl⟩
  · unfold DriveLaw; decide +kernel
  · decide +kernel

theorem scanning_travel : TurnLaw scanning ∧ ReferenceLaw scanning := by
  refine ⟨⟨by decide +kernel, ?_⟩, rfl, ?_⟩
  · intro p h
    cases h
    decide +kernel
  · exact fun h => absurd h (by decide +kernel)

theorem scanning_measures : HistoryLaw scanning ∧ AccumulatorLaw scanning := by
  refine ⟨⟨by decide +kernel, by decide +kernel, rfl, trivial⟩, ?_⟩
  intro k
  match k with
  | 0 | 1 =>
    refine ⟨by decide +kernel, fun b => ?_⟩
    show (Table.get Accumulator.zero [_] b).count ≤ _
    simp only [Table.get]
    split <;> decide +kernel
  | 2 | 3 => exact ⟨by decide +kernel, fun b => Nat.zero_le _⟩

/-- A step of a state that meets the laws, with a command in its queue. -/
theorem step_exists (c : Instr) (s : State) : ∃ t, step { s with pending := [c] } = .next t := by
  show ∃ t, exec c _ = .next t
  cases c <;> exact ⟨_, rfl⟩

theorem witness_LinesLawKept :
    DriveLaw scanning ∧ ShutterLaw scanning ∧ ∃ t, step { scanning with pending := [.motionTick false] } = .next t :=
  ⟨scanning_lines.1, scanning_lines.2, step_exists ..⟩

theorem witness_TravelLawsKept :
    TurnLaw scanning ∧ ReferenceLaw scanning ∧ HistoryLaw scanning ∧
    ∃ t, step { scanning with pending := [.indexPass] } = .next t :=
  ⟨scanning_travel.1, scanning_travel.2, scanning_measures.1, step_exists ..⟩

theorem witness_MeasurementLawsKept :
    HistoryLaw scanning ∧ AccumulatorLaw scanning ∧ ∃ t, step { scanning with pending := [.sync] } = .next t :=
  ⟨scanning_measures.1, scanning_measures.2, step_exists ..⟩

theorem witness_QueueAndBankLawsKept :
    NoticeLaw reading ∧ CapacityLaw reading ∧ BankLaw reading ∧ reading.profile.newestComplete = some 57 ∧
    ∃ t, step { reading with pending := [.frameSent] } = .next t := by
  have newest : reading.profile.newestComplete = some 57 := by decide +kernel
  refine ⟨?_, ?_, ⟨by decide +kernel, by decide +kernel, ?_, ?_, ?_⟩, newest, step_exists ..⟩
  · unfold NoticeLaw; decide +kernel
  · unfold CapacityLaw; decide +kernel
  · intro h e
    cases e
    decide +kernel
  · intro w e n h
    cases e
    rw [newest] at h
    cases h
    rfl
  · intro w _ e
    cases e

theorem witness_AlarmLawKept : AlarmLaw limited ∧ ∃ t, step { limited with pending := [.ack 1 255] } = .next t := by
  refine ⟨?_, step_exists ..⟩
  unfold AlarmLaw
  decide +kernel

theorem witness_ScanEntryIsUnblocked :
    ∃ t, exec .reverseDwellExpiry reversing = .next t ∧ reversing.traverse.state ≠ .traversing ∧
      t.traverse.state = .traversing :=
  ⟨_, runs dwellExpiry reversing (by decide +kernel), by decide +kernel, by decide +kernel⟩

/-- The longest message body. -/
def longest : Message where
  kind := 0x23
  tag := 0xF0
  body := List.replicate 1024 0xF1

theorem witness_WireFrameJoinsQueue :
    longest.body.length ≤ 1024 ∧ ¬(longest.kind = 0x03 ∧ longest.body = []) ∧ (queued 3 parked).settled ∧
    (queued 3 parked).link.rx = .hunt ∧ (queued 3 parked).link.queue.length < 4 :=
  ⟨by decide +kernel, by decide +kernel, rfl, rfl, by decide +kernel⟩

theorem witness_BodiesReadBack :
    (List.replicate 204 (Breakpoint.mk 1 2)).length ≤ maxCurvePoints := by decide +kernel

theorem witness_SettingsReadBack :
    (FrameBody.check frame.body = some frame ∧
      SlotBody.check ((slotAt .water 200 5).body 1) = some (1, slotAt .water 200 5) ∧
      CurveBody.check (curveBody 0 (some curve)) = some (0, curve) ∧
      StdBody.check StdSettings.cold.body = some StdSettings.cold ∧
      LayoutBody.check layout.body = some layout ∧
      LayoutBody.check ⟨1, 640, 5, 6⟩ = some { mode := .edge, boxes := 640, origin := 0, width := 0 } ∧
      ZoneBody.check (Zone.cold.body 7) = some (7, Zone.cold) ∧
      SheetBody.check (SheetSettings.cold.body 31000 32000) = some (31000, 32000, SheetSettings.cold) ∧
      WatchBody.check (Watch.cold.body 7) = some (7, Watch.cold)) ∧
    (FrameBody.check frame.body = some parked.position.frame ∧
      readPeriod 1000 = some parked.headLink.period ∧
      (∀ k : Fin 4, (parked.headLink.slots[k].body k).check = some (k, parked.headLink.slots[k])) ∧
      (∀ k : Fin 4,
        ((parked.conversion.curves[k]).map fun c => (curveBody k (some c)).check) =
          (parked.conversion.curves[k]).map fun c => some (k, c)) ∧
      StdBody.check StdSettings.cold.body = some parked.standardize.settings ∧
      parked.boxes.layout.map (fun l => l.body.check) = parked.boxes.layout.map some ∧
      parked.boxes.stagedLayout = none) ∧
    ((∀ z : Fin 8, (parked.boxes.zones[z].body z).check = some (z, parked.boxes.zones[z])) ∧
      FilterBody.check (filterBody ProfileUnit.cold.settings 2) =
        some
          (withProfile parked fun p =>
            { p with settings := p.settings.set 4 { FilterSettings.cold with minCount := 1 } }).profile.settings ∧
      SheetBody.check (SheetSettings.cold.body 31000 32000) =
        some (parked.conversion.presenceThreshold, parked.conversion.absenceThreshold, parked.edges.settings) ∧
      (∀ w : Fin 8, (parked.headLink.watches[w].body w).check = some (w, parked.headLink.watches[w])) ∧
      (∀ i : Fin 16,
        readReactions (BitVec.ofNat 8 (reactionField parked.alarms.sets[i])) = some parked.alarms.sets[i]) ∧
      readMask 15 = some parked.link.mask) := by
  refine ⟨?_, ?_, ?_⟩ <;> decide +kernel

theorem witness_DispatchRunsCommand :
    (Instr.status 1).WellFormed = true ∧ requestMessage (.status 1) = some statusRequest ∧
    (queued 1 parked).link.slot = none ∧ (queued 1 parked).link.readout = none ∧
    (queued 1 parked).link.queue = [statusRequest] := by decide +kernel

theorem witness_RequestsWait :
    (Instr.status 1).WellFormed = true ∧ requestMessage (.status 1) = some statusRequest ∧
    (Settled (queued 3 parked) ∧ ¬Free (queued 3 parked) ∧ (queued 3 parked).link.queue.length < 4) ∧
    (Settled (queued 4 parked) ∧ ¬Free (queued 4 parked) ∧ 4 ≤ (queued 4 parked).link.queue.length ∧
      (queued 4 parked).link.refusal = none) ∧
    let full := withLink (queued 4 parked) fun l => { l with refusal := some waiting }
    Settled full ∧ ¬Free full ∧ 4 ≤ full.link.queue.length ∧ full.link.refusal ≠ none := by decide +kernel

theorem witness_EncoderTransitionCounts :
    Settled parked ∧ (false = parked.position.encA ∧ false = parked.position.encB) ∧
    ¬(true = parked.position.encA ↔ false = parked.position.encB) ∧
    ¬(false = parked.position.encA ↔ true = parked.position.encB) ∧
    (true ≠ parked.position.encA ∧ true ≠ parked.position.encB) := by decide +kernel

theorem witness_IllegalTransitionLosesReference :
    (Settled scanning ∧ scanning.alarms.entries[srcEncoder].state = .clear ∧
      scanning.alarms.sets[srcEncoder].halt = true) ∧
    let s := withAlarm parked srcEncoder .activeAcked
    Settled s ∧ s.alarms.entries[srcEncoder].state ≠ .clear ∧ s.position.reference ≠ .lost ∧
      ∀ c ∈ [HaltCause.reaction, .limit, .restart], s.traverse.state ≠ .halted c := by decide +kernel

/-- The index error at a count, as R8 takes it. -/
abbrev indexError (s : State) : Nat := (s.position.counter.toInt - s.position.frame.homePosition).natAbs

theorem witness_IndexPassTaken :
    (let s := parked.setPosition { parked.position with indexAsserted := true }
     Settled s ∧ s.position.indexAsserted = true) ∧
    (∀ n ∈ [1180, 1220], let s := atCount parked n
      Settled s ∧ s.position.indexAsserted = false ∧ s.position.captureArmed = false ∧
        s.position.reference = .referenced ∧ indexError s ≤ s.position.frame.indexTolerance) ∧
    (let s := homing .seek
     Settled s ∧ s.position.indexAsserted = false ∧ s.position.captureArmed = false ∧
       s.position.reference ≠ .referenced) ∧
    (∀ n ∈ [1179, 1221], let s := atCount scanning n
      Settled s ∧ s.position.indexAsserted = false ∧ s.position.captureArmed = false ∧
        s.position.reference = .referenced ∧ s.position.frame.indexTolerance < indexError s) ∧
    let s := homing .approach
    Settled s ∧ s.position.indexAsserted = false ∧ s.position.captureArmed = true ∧
      s.traverse.state = .homing .approach ∧ s.position.reference ≠ .referenced := by decide +kernel

/-- Scan 57 at a count where the last tick found it, with a demand and a stall count. -/
abbrev standing (speed timer : Nat) : State :=
  withTraverse (atCount scanning 140000) fun t => { t with prevPosition := 140000, speed := speed, stallTimer := timer }

theorem witness_TickHoldsOrCruises :
    (Settled parked ∧ parked.traverse.state.atRest = true ∧ parked.traverse.speed = 0) ∧
    (let s := atCount scanning 140690
     Settled s ∧ s.traverse.state = .traversing ∧ s.traverse.turnPoint = some 142300 ∧
       (s.traverse.speed * s.traverse.speed / (2000 * s.position.frame.accelStep) + s.traverse.speed / 1000 + 1 : Nat) <
         (s.traverse.drive s.traverse.scanDir).ahead (142300 - s.position.counter.toInt)) ∧
    ∀ x ∈ [(500, 499, 500), (500, 500, 500), (499, 7, 0)],
      let s := standing x.1 x.2.1
      Settled s ∧ s.traverse.drvEn = true ∧ s.position.counter = s.traverse.prevPosition ∧
        (motionTick false s.nextEvent).traverse.state.driveOn = true ∧
        (motionTick false s.nextEvent).traverse.stallTimer = x.2.2 := by
  refine ⟨?_, ?_, ?_⟩ <;> decide +kernel

/-- The running scan stands at the braking distance of its turn point p, or nearer. -/
abbrev Closing (s : State) (p : Int) : Prop :=
  s.traverse.state = .traversing ∧ s.traverse.turnPoint = some p ∧
    (s.traverse.drive s.traverse.scanDir).ahead (p - s.position.counter.toInt) ≤
      (s.traverse.speed * s.traverse.speed / (2000 * s.position.frame.accelStep) + s.traverse.speed / 1000 + 1 : Nat)

theorem closing_iff (s : State) : (∃ p, Closing s p) ↔ s.closesAtTick :=
  ⟨fun ⟨p, a, b, c⟩ => ⟨a, p, b, c⟩, fun ⟨a, p, b, c⟩ => ⟨p, a, b, c⟩⟩

/-- Scan 57 at its first braking tick. -/
abbrev closing : State := atCount scanning 140691

/-- That scan closed by a demand and an EdgeMonitor. -/
abbrev closingWith (speed : Nat) (f : EdgeMonitor → EdgeMonitor) : State :=
  withEdges (withTraverse closing fun t => { t with speed := speed, turnPoint := some 140692 }) f

/-- The edges found at a close: the leading side in the search, the trailing one with the absent run at edge_run. -/
abbrev foundAt (low high : Int) (m : EdgeMonitor) : EdgeMonitor :=
  { m with
    absentRun := m.settings.edgeRun
    context := m.context.map fun c => { c with leading := some low, lastPresent := some high } }

/-- Scan 57 closing at a demand of accel_step with no reverse dwell, its search context left out, with or without a
staged layout: the next scan starts in the same tick. -/
def turning (staged : Option Layout) : State :=
  let s := withTraverse (cruising 140691) fun t => { t with speed := 20, turnPoint := some 140692 }
  (s.setPosition { s.position with frame := { s.position.frame with reverseDwell := 0 } }).setBoxes
    { s.boxes with stagedLayout := staged }

theorem witness_TickClosesScan :
    (∀ s ∈ [closing,
        withProfile closing fun p => { p with banks := #v[some (bank 56), none], published := some 0, held := some 0 },
        withProfile closing fun p => { p with banks := #v[some (bank 56), none], published := some 0 }],
      Settled s ∧ Closing s 142300 ∧ s.profile.context.isSome = true ∧ s.edges.context.isSome = true ∧
        s.position.frame.accelStep < s.traverse.speed ∧
        ∀ i ∈ [srcEdgeShift, srcProfileThin], s.alarms.sets[i].park = false ∧ s.alarms.sets[i].halt = false) ∧
    (∀ staged ∈ [none, some layout],
      let s := turning staged
      Settled s ∧ Closing s 140692 ∧ s.profile.context.isSome = true ∧
        s.traverse.speed ≤ s.position.frame.accelStep ∧
        (motionTick false s.nextEvent).traverse.state = .traversing ∧
        ((motionTick false s.nextEvent).profile.published = none ↔ staged = some layout)) ∧
    (∀ e ∈ [(11900, 140600), (11899, 140600), (12400, 140601), (11899, 140601)],
      let s := closingWith 20 (foundAt e.1 e.2)
      Settled s ∧ Closing s 140692 ∧ s.edges.low.find = some (12400, 56) ∧ s.edges.high.find = some (140100, 56) ∧
        s.edges.settings.edgeShiftLimit = 500 ∧
        s.edges.context.any (fun c => c.sheetSeen && (c.leading = some e.1) && c.lastPresent = some e.2) = true) ∧
    let s := atCount (withTraverse scanning fun t => { t with turnPoint := some 148000 }) 146391
    Settled s ∧ Closing s 148000 ∧ (148000 : Int) = s.position.frame.travelMax ∧
      s.edges.absentRun < s.edges.settings.edgeRun ∧
      s.edges.context.any (fun c => c.dir = .fwd && c.lastReading = some .present) = true := by
  refine ⟨?_, ?_, ?_, ?_⟩ <;> decide +kernel

/-- The move of `moving`. -/
abbrev moveOf (purpose : Purpose) (phase : MovePhase) (short : Int) : Move :=
  { purpose := purpose, target := 50000 + short, phase := phase }

theorem witness_TickMoves :
    (∀ phase ∈ [MovePhase.run, .creep], ∀ short ∈ [(6 : Int), -6],
      let s := moving (.toPark .host) phase short 20
      let m := moveOf (.toPark .host) phase short
      Settled s ∧ s.traverse.state = .positioning m ∧ m.phase = phase ∧
        s.position.frame.arriveTolerance < (m.target - s.position.counter.toInt).natAbs) ∧
    let s := moving (.toPark .host) .run 5 21
    let m := moveOf (.toPark .host) .run 5
    Settled s ∧ s.traverse.state = .positioning m ∧
      (m.target - s.position.counter.toInt).natAbs ≤ s.position.frame.arriveTolerance ∧
      s.position.frame.accelStep < s.traverse.speed := by decide +kernel

theorem witness_TickCompletesMove :
    (∀ purpose ∈ [Purpose.toPark .host, .toStd .park, .toPoint 500, .toTurn .fwd false],
      ∀ short ∈ [(5 : Int), -5],
      let s := moving purpose .run short 20
      let m := moveOf purpose .run short
      Settled s ∧ s.traverse.state = .positioning m ∧ m.purpose = purpose ∧
        (m.target - s.position.counter.toInt).natAbs ≤ s.position.frame.arriveTolerance ∧
        s.traverse.speed ≤ s.position.frame.accelStep ∧ s.edges.holdoff ≠ .due ∧ s.readyAtStart = true ∧
        s.blocked = false) ∧
    (∀ settle ∈ [0, 1], ∀ request ∈ [none, some false, some true], ∀ dest ∈ [CycleDest.park, .turnLow, .ret],
      let s := moving (.toStd dest) .run 5 20
      let s := s.setStandardize
        { s.standardize with
          pendingRequest := request, settings := { s.standardize.settings with darkSettle := settle } }
      Settled s ∧ s.traverse.state = .positioning (moveOf (.toStd dest) .run 5) ∧
        s.headLink.slots[(0 : Fin 4)].enabled = true ∧ s.headLink.slots[(3 : Fin 4)].enabled = false) ∧
    (let s := moving (.toTurn .fwd false) .run 5 20
     let s := s.setBoxes { s.boxes with layout := none }
     Settled s ∧ s.traverse.state = .positioning (moveOf (.toTurn .fwd false) .run 5) ∧ s.readyAtStart = false) ∧
    (let s := withAlarm (moving (.toTurn .fwd false) .run 5 20) srcSheetLost .latched
     Settled s ∧ s.traverse.state = .positioning (moveOf (.toTurn .fwd false) .run 5) ∧ s.readyAtStart = true ∧
       s.blocked = true) ∧
    ∀ attempts ∈ [2, 3],
      let s := withTraverse (withEdges (moving (.toPark .brk) .run 5 20) fun m => { m with holdoff := .due })
        fun t => { t with resumeAttempts := attempts }
      let m := moveOf (.toPark .brk) .run 5
      Settled s ∧ s.traverse.state = .positioning m ∧
        (m.target - s.position.counter.toInt).natAbs ≤ s.position.frame.arriveTolerance ∧
        s.traverse.speed ≤ s.position.frame.accelStep ∧ m.purpose = .toPark .brk ∧ s.edges.holdoff = .due ∧
        (s.edges.settings.resumeLimit ≤ s.traverse.resumeAttempts ↔ attempts = 3) := by
  refine ⟨?_, ?_, ?_, ?_, ?_⟩ <;> decide +kernel

theorem witness_TickHomes :
    ∀ phase ∈ [HomingPhase.leave, .seek, .approach],
      Settled (homing phase) ∧ (homing phase).traverse.state = .homing phase := by decide +kernel

/-- REVERSING with a demand, a decided detour or none, a dwell timer and a reverse_dwell. -/
abbrev braking (speed : Nat) (detour : Bool) (timer : Option Nat) (dwell : Nat) : State :=
  let s := withTraverse reversing fun t => { t with speed := speed, detour := detour, dwellTimer := timer }
  s.setPosition { s.position with frame := { s.position.frame with reverseDwell := dwell } }

theorem witness_TickReverses :
    (let s := braking 21 false none 100
     Settled s ∧ s.traverse.state = .reversing ∧ s.position.frame.accelStep < s.traverse.speed) ∧
    (let s := braking 20 true none 100
     Settled s ∧ s.traverse.state = .reversing ∧ s.traverse.speed ≤ s.position.frame.accelStep ∧
       s.traverse.detour = true) ∧
    (let s := braking 20 false none 1
     Settled s ∧ s.traverse.state = .reversing ∧ s.traverse.speed ≤ s.position.frame.accelStep ∧
       s.traverse.detour = false ∧ s.traverse.dwellTimer = none ∧ s.position.frame.reverseDwell ≠ 0) ∧
    let s := braking 20 false none 0
    Settled s ∧ s.traverse.state = .reversing ∧ s.traverse.speed ≤ s.position.frame.accelStep ∧
      s.traverse.detour = false ∧ s.traverse.dwellTimer = none ∧ s.position.frame.reverseDwell = 0 ∧
      s.readyAtStart = true ∧ s.blocked = false := by decide +kernel

theorem witness_DwellExpiryStartsScan :
    (Settled parked ∧ parked.traverse.dwellTimer = none) ∧
    (let s := reversing.setBoxes { reversing.boxes with layout := none }
     Settled s ∧ s.traverse.dwellTimer ≠ none ∧ s.readyAtStart = false) ∧
    (let s := withAlarm reversing srcSheetLost .latched
     Settled s ∧ s.traverse.dwellTimer ≠ none ∧ s.readyAtStart = true ∧ s.blocked = true) ∧
    (Settled reversing ∧ reversing.traverse.dwellTimer ≠ none ∧ reversing.readyAtStart = true ∧
      reversing.blocked = false) := by decide +kernel

theorem witness_DriveWatchesExpire :
    (let s := withTraverse scanning fun t => { t with stallTimer := 500 }
     Settled s ∧ s.traverse.drvEn = true ∧ s.position.frame.stallTime ≤ s.traverse.stallTimer ∧
       s.alarms.entries[srcStall].state = .clear ∧ s.alarms.sets[srcStall].halt = true) ∧
    (let s := withTraverse scanning fun t => { t with stallTimer := 499 }
     Settled s ∧ ¬(s.traverse.drvEn = true ∧ s.position.frame.stallTime ≤ s.traverse.stallTimer)) ∧
    (Settled (homing .seek) ∧ (homing .seek).traverse.moveTimer ≠ none ∧
      (homing .seek).traverse.state = .homing .seek) ∧
    (Settled parked ∧ parked.traverse.moveTimer = none ∧ parked.traverse.readyWatch = none ∧
      false = parked.traverse.drvReady ∧ true ≠ parked.traverse.drvReady) ∧
    (let s := withTraverse parked fun t => { t with readyWatch := some 10, driveFault := true }
     Settled s ∧ s.traverse.readyWatch ≠ none ∧ s.traverse.driveFault = true) ∧
    let s := withTraverse parked fun t => { t with readyWatch := some 10 }
    Settled s ∧ s.traverse.readyWatch ≠ none ∧ s.traverse.driveFault = false ∧ s.traverse.state.driveOn = true ∧
      s.alarms.entries[srcDriveFault].state = .clear ∧ s.alarms.sets[srcDriveFault].halt = true := by decide +kernel

theorem witness_LimitLinesHalt :
    (Settled limited ∧ limited.traverse.limitHi = true ∧ limited.traverse.limitLo = false) ∧
    (Settled (homing .seek) ∧ (homing .seek).traverse.limitLo = false ∧
      (homing .seek).traverse.state = .homing .seek) ∧
    let s := withTraverse limited fun t => { t with limitLo := true }
    Settled s ∧ s.traverse.limitHi = true ∧ s.traverse.limitLo = true ∧
      s.alarms.entries[srcLimit].state = .active := by decide +kernel

theorem witness_SyncOpensPeriod :
    (Settled State.reset ∧ State.reset.headLink.period = none) ∧
    (Settled parked ∧ parked.headLink.period ≠ none ∧ parked.headLink.slots[0].enabled = true ∧
      parked.headLink.links[0].unsettled = true ∧ parked.headLink.slots[2].enabled = false) := by decide +kernel
/-- A start bit at a time in ns lies in the window of a slot (R52). -/
abbrev inside (s : State) (time : Nat) (k : Fin 4) : Prop :=
  s.headLink.slots[k].windowStart * 1000 ≤ time ∧
    time < (s.headLink.slots[k].windowStart + s.headLink.slots[k].windowLength) * 1000

/-- The distance of a start bit from a window in ns (R53). -/
abbrev away (s : State) (time : Nat) (k : Fin 4) : Nat :=
  if time < s.headLink.slots[k].windowStart * 1000 then s.headLink.slots[k].windowStart * 1000 - time
  else time - (s.headLink.slots[k].windowStart + s.headLink.slots[k].windowLength) * 1000

theorem witness_StartBitTaken :
    (Settled parked ∧ parked.headLink.reception = none ∧ parked.headLink.period ≠ none) ∧
    (∀ time ∈ [100000, 159999],
      parked.headLink.slots[0].enabled = true ∧ inside parked time 0 ∧
        ∀ j : Fin 4, j ≠ 0 → parked.headLink.slots[j].enabled = true → ¬inside parked time j) ∧
    (∀ time ∈ [160000, 180000],
      (∀ k : Fin 4, parked.headLink.slots[k].enabled = true → ¬inside parked time k) ∧
      parked.headLink.slots[0].enabled = true ∧ parked.headLink.links[0].unsettled = true ∧
      ∀ j : Fin 4, j ≠ 0 → parked.headLink.slots[j].enabled = true → parked.headLink.links[j].unsettled = true →
        away parked time 0 < away parked time j ∨
          away parked time 0 = away parked time j ∧
            parked.headLink.slots[0].windowStart < parked.headLink.slots[j].windowStart) ∧
    (let s := withHeadLink parked fun h => { h with links := Vector.replicate 4 SlotLink.cold }
     Settled s ∧ s.headLink.reception = none ∧ s.headLink.period ≠ none ∧
       (∀ k : Fin 4, s.headLink.slots[k].enabled = true → ¬inside s 160000 k) ∧
       ∀ k : Fin 4, s.headLink.slots[k].enabled = true → s.headLink.links[k].unsettled = false) ∧
    (Settled (receiving .discarded parked) ∧ (receiving .discarded parked).headLink.reception ≠ none) ∧
    (Settled State.reset ∧ State.reset.headLink.period = none) := by
  refine ⟨?_, ?_, ?_, ?_, ?_, ?_⟩ <;> decide +kernel

theorem witness_FrameSettlesOutcome :
    (Settled parked ∧ parked.headLink.reception = none) ∧
    (Settled (receiving .discarded parked) ∧ (receiving .discarded parked).headLink.reception = some .discarded) ∧
    (Settled (receiving (.own 1) parked) ∧ (receiving (.own 1) parked).headLink.reception = some (.own 1)) ∧
    (Settled (receiving (.stray 0) parked) ∧
      (receiving (.stray 0) parked).headLink.reception = some (.stray 0)) := by decide +kernel

/-- The first fifteen bits of item 3 with value 0xA5, whose check 13 ends in 1. -/
def fifteen : List Bool :=
  [false, false, true, true, true, false, true, false, false, true, false, true, true, true, false]

/-- Slot 1 with fifteen bits of a message, its frame in reception. -/
def assembling : State :=
  withHeadLink (receiving (.own 1) parked) fun h =>
    { h with links := h.links.set 1 { SlotLink.cold with unsettled := true, assembly := fifteen } }

/-- Whether a sixteenth bit makes the check of the message right (R59). -/
abbrev checkFits (d : Bool) : Prop :=
  let message := assembling.headLink.links[(1 : Fin 4)].assembly ++ [d]
  let value := bitsValue ((message.drop 4).take 8)
  bitsValue (message.drop 12) = 15 - (bitsValue (message.take 4) + value / 16 + value % 16) % 16

theorem witness_SlowMessageUpdatesEntry :
    Settled assembling ∧ assembling.headLink.reception = some (.own 1) ∧
    assembling.headLink.links[1].assembly.length = 15 ∧ checkFits true ∧ ¬checkFits false ∧
    ∀ d ∈ [true, false],
      let bits := goodFrame false d 0 1000
      crc5 (bits.extractLsb' 5 20) = bits.extractLsb' 0 5 ∧ bits.extractLsb' 21 2 = 0 ∧ bits.getLsbD 24 = false ∧
        bits.getLsbD 23 = d := by decide +kernel

theorem witness_CurveInterpolates :
    risingX curve = true ∧ curve = (20000, 6000) :: curve.tail ∧ 20000 ≤ 20000 ∧
    curve = curve.dropLast ++ [(32768, 0)] ∧ 32768 ≤ 32768 ∧
    curve = [] ++ (20000, 6000) :: (24000, 4200) :: [(28000, 2600), (32768, 0)] ∧ 20000 ≤ 23945 ∧ 23945 ≤ 24000 ∧
    (28000, 2600) ∈ curve := by decide

/-- Scan 57 with the history entries that slots 0 and 1 are attributed to. -/
def sampled : State :=
  scanning.setPosition
    { scanning.position with
      history := [entry 7195 52345 (some 57), entry 7196 52353 (some 57), entry 7197 52361 (some 57)] }

/-- Slot 0's frame in reception over scan 57, an enabled presence-ignore zone from a position on. -/
def ignoring (low : Nat) : State :=
  let s := receiving (.own 0) sampled
  s.setBoxes
    { s.boxes with
      zones := s.boxes.zones.set 0 { enabled := true, low := low, high := 60000, slots := 0, presenceIgnore := true } }

/-- A frame of slot 0 of the standardize reference that ends the cycle's last collection (R75). -/
def endingZero : State :=
  receiving (.own 0)
    (cycling
      { cycleIn .ref { state := .ref, darkSum := 0, darkCount := 200, refSum := 0, refCount := 499 } with
        slots :=
          #v[some { state := .ref, darkSum := 0, darkCount := 200, refSum := 0, refCount := 499 }, none, none, none] })

theorem witness_WeightReadingClassified :
    (let bits := goodFrame false false 0 38412
     crc5 (bits.extractLsb' 5 20) = bits.extractLsb' 0 5 ∧ bits.extractLsb' 21 2 = 0 ∧
       (bits.extractLsb' 5 16).toNat = 38412) ∧
    (let s := receiving (.own 0) sampled
     Settled s ∧ s.headLink.reception = some (.own 0) ∧ s.endsCollection 0 38412 = false ∧
       s.standardize.records[(0 : Fin 4)].accepted = some accepted ∧
       s.attributed 0 (s.headLink.nextSeq - 1) = some (entry 7197 52361 (some 57)) ∧
       s.presenceIgnored 52361 = false) ∧
    (∀ low ∈ [52361, 52362],
      Settled (ignoring low) ∧ (ignoring low).headLink.reception = some (.own 0) ∧
        ((ignoring low).presenceIgnored 52361 = true ↔ low = 52361)) ∧
    (let s := receiving (.own 0) parked
     Settled s ∧ s.headLink.reception = some (.own 0) ∧ s.attributed 0 (s.headLink.nextSeq - 1) = none) ∧
    (let s := receiving (.own 0) sampled
     (s.setStandardize Standardize.cold).standardize.records[(0 : Fin 4)].accepted = none) ∧
    (Settled endingZero ∧ endingZero.headLink.reception = some (.own 0) ∧ endingZero.endsCollection 0 38412 = true) ∧
    (let bits := goodFrame false false 1 38412
     crc5 (bits.extractLsb' 5 20) = bits.extractLsb' 0 5 ∧ bits.extractLsb' 21 2 ≠ 0 ∧
       crc5 ((bits + 1).extractLsb' 5 20) ≠ (bits + 1).extractLsb' 0 5) ∧
    (Settled (receiving (.stray 0) sampled) ∧
      (receiving (.stray 0) sampled).headLink.reception = some (.stray 0)) ∧
    (Settled parked ∧ parked.headLink.period ≠ none ∧ parked.headLink.slots[(0 : Fin 4)].enabled = true ∧
      parked.headLink.links[(0 : Fin 4)].unsettled = true) := by
  refine ⟨?_, ?_, ?_, ?_, ?_, ?_, ?_, ?_, ?_⟩ <;> decide +kernel

/-- Slot 1's frame in reception over PRESENT sheet, box 322 holding a count. -/
def binning (count : Nat) (latest : Presence) : State :=
  let s := receiving (.own 1) sampled
  (s.setConversion { s.conversion with latest := latest }).setBoxes
    { s.boxes with accumulators := #v[[], [(322, ⟨1690, count⟩)], [], []] }

theorem witness_ReadingBinned :
    (let bits := goodFrame false false 0 20000
     crc5 (bits.extractLsb' 5 20) = bits.extractLsb' 0 5 ∧ bits.extractLsb' 21 2 = 0 ∧
       (bits.extractLsb' 5 16).toNat = 20000) ∧
    (∀ count ∈ [65534, 65535],
      let s := binning count .present
      Settled s ∧ s.headLink.reception = some (.own 1) ∧ s.endsCollection 1 20000 = false ∧
        s.standardize.records[(1 : Fin 4)].accepted = some accepted ∧
        s.conversion.curves[(1 : Fin 4)] = some curve ∧
        s.attributed 1 (s.headLink.nextSeq - 1) = some (entry 7195 52345 (some 57)) ∧
        s.boxes.context = some { scan := 57, dir := .fwd, layout := layout, map := .fixed } ∧
        some 57 = s.traverse.runningScan ∧ s.conversion.latest = .present ∧ s.excluded 1 52345 = false ∧
        boxOf layout .fixed 52345 = some 322 ∧ (s.accumulator 1 322).count = count) ∧
    (let s := receiving (.own 0) sampled
     ∃ t, exec (.frameReceived (goodFrame false false 0 20000)) s = .next t ∧ Settled s ∧
       s.headLink.reception = some (.own 0) ∧ s.endsCollection 0 20000 = false ∧ t.conversion.latest = .present ∧
       s.attributed 0 (s.headLink.nextSeq - 1) = some (entry 7197 52361 (some 57)) ∧
       boxOf layout .fixed 52361 = some 322 ∧ (s.accumulator 0 322).count = 5 ∧
       (t.accumulator 0 322).count = 6) ∧
    (Settled (binning 5 .unknown) ∧ (binning 5 .unknown).headLink.reception = some (.own 1) ∧
      (binning 5 .unknown).endsCollection 1 20000 = false ∧ (binning 5 .unknown).conversion.latest ≠ .present) ∧
    0 < layout.width ∧ (12400 : Int) < 140100 := by
  refine ⟨?_, ?_, ⟨_, runs (completeFrame (goodFrame false false 0 20000)) _ ?_, ?_⟩, ?_⟩ <;> decide +kernel

/-- A collection of a slot. -/
abbrev collection (st : CollectState) (dark ref : Nat) : Collection :=
  { state := st, darkSum := 0, darkCount := dark, refSum := 0, refCount := ref }

/-- A cycle of slots 1 and 2. -/
abbrev cycleOfTwo (phase : CyclePhase) (x y : Collection) : Cycle :=
  { cycleIn phase x with slots := #v[none, some x, some y, none] }

/-- A cycle without a settling time before the reference. -/
abbrev unsettledRef (c : Cycle) : Cycle := { c with settings := { c.settings with refSettle := 0 } }

/-- A slot other than slot 1 is in a collection state. -/
abbrev anotherIs (c : Cycle) (st : CollectState) : Bool := c.slots[2].any fun y => y.state = st

/-- A frame of slot 1 in reception while a cycle runs. -/
abbrev collecting (r : Reception) (c : Cycle) : State := receiving r (cycling c)

/-- No alarm that a frame may raise claims the drive. -/
abbrev unclaimed (s : State) : Prop :=
  ∀ i ∈ [srcHole, srcSensorFault, srcHousekeeping],
    s.alarms.entries[i].state ≠ .clear ∨ s.alarms.sets[i].park = false ∧ s.alarms.sets[i].halt = false

theorem witness_CycleCollectsValue :
    (let c := cycleIn .dark (collection .dark 198 0)
     (cycling c).standardize.cycle = some c ∧ c.slots[1] = some (collection .dark 198 0) ∧ c.phase = .dark ∧
       198 + 1 < c.settings.nDark ∧ c.slots[0] = none) ∧
    (let c := cycleOfTwo .dark (collection .dark 199 0) (collection .dark 5 0)
     (cycling c).standardize.cycle = some c ∧ c.settings.nDark ≤ 199 + 1 ∧ anotherIs c .dark = true) ∧
    (let c := cycleIn .dark (collection .dark 199 0)
     (cycling c).standardize.cycle = some c ∧ c.settings.nDark ≤ 199 + 1 ∧ anotherIs c .dark = false ∧
       c.settings.refSettle ≠ 0 ∧ (unsettledRef c).settings.refSettle = 0) ∧
    (let c := cycleIn .ref (collection .ref 200 498)
     (cycling c).standardize.cycle = some c ∧ c.phase = .ref ∧ 498 + 1 < c.settings.nRef) ∧
    (let c := cycleOfTwo .ref (collection .ref 200 499) (collection .ref 200 5)
     (cycling c).standardize.cycle = some c ∧ c.settings.nRef ≤ 499 + 1 ∧ anotherIs c .ref = true) ∧
    (let c := cycleIn .ref (collection .ref 200 499)
     (cycling c).standardize.cycle = some c ∧ c.settings.nRef ≤ 499 + 1 ∧ anotherIs c .ref = false) ∧
    (let c := cycleOfTwo .dark (collection .refWait 200 0) (collection .dark 5 0)
     (cycling c).standardize.cycle = some c ∧ c.phase = .dark ∧ (collection .refWait 200 0).state ≠ .dark ∧
       anotherIs c .dark = true) ∧
    (let good := goodFrame false false 0 52400
     crc5 (good.extractLsb' 5 20) = good.extractLsb' 0 5 ∧ good.extractLsb' 21 2 = 0 ∧
       (good.extractLsb' 5 16).toNat = 52400 ∧ (goodFrame false false 1 52400).extractLsb' 21 2 ≠ 0) ∧
    ∀ r ∈ [Reception.own 1, .stray 1], ∀ n ∈ [498, 499],
      let s := collecting r (cycleIn .ref (collection .ref 200 n))
      Settled s ∧ s.headLink.reception = some r ∧ s.traverse.state = .standardizing .park ∧ unclaimed s ∧
        (s.endsCollection 1 52400 = true ↔ n = 499) ∧ s.endsCollection 0 52400 = false := by
  refine ⟨?_, ?_, ?_, ?_, ?_, ?_, ?_, ?_, ?_⟩ <;> decide +kernel

/-- Scan 57 at its first braking tick, its search context left out, its channels to hold enough valid boxes. -/
def thinned (minValid : Nat) : State :=
  withProfile (cruising 140691) fun p =>
    { p with settings := p.settings.map fun x => { x with minValid := minValid } }

theorem witness_ChannelClosed :
    sixBoxes.part.thin = false ∧
    ([some 4150, some 4175, none, some 4230, some 4220, none] : List (Option Int))[0]? = some (some 4150) ∧
    ([some 4150, some 4175, none, some 4230, some 4220, none] : List (Option Int))[5]? = some none ∧
    (closeChannel 0 sixBoxes.filter { k := 2, minCount := 3, minValid := 4, staleLimit := 2 }
      [some 4150, some 4175, none, some 4230, none, none]).part.thin = true ∧
    ∀ x ∈ [(1, false), (2, true)],
      let s := thinned x.1
      Settled s ∧ Closing s 142300 ∧ s.profile.context.isSome = true ∧
        (motionTick false s.nextEvent).traverse.state ≠ .traversing ∧
        ((motionTick false s.nextEvent).profile.history.getLast?).map (fun r => r.parts.map ChannelPart.thin) =
          some [x.2, x.2, x.2] := by
  refine ⟨?_, ?_, ?_, ?_, ?_⟩ <;> decide +kernel

/-- Scan 57 with an absent run. -/
abbrev absentRun (q : Qualification) (n : Nat) : State :=
  withEdges scanning fun m => { m with qualification := q, absentRun := n, absentFirst := some 52345 }

theorem witness_SheetRunsCounted :
    (entry 7195 52345 (some 57)).shutterOpen = true ∧
    (∀ n ∈ [3, 49], (absentRun .qualified n).edges.qualification = .qualified ∧
      (absentRun .qualified n).edges.settings.holeRun ≤ n ∧ n < (absentRun .qualified n).edges.settings.breakRun) ∧
    ¬(absentRun .qualified 2).edges.settings.holeRun ≤ 2 ∧ ¬50 < (absentRun .qualified 50).edges.settings.breakRun ∧
    scanning.insideInterior (entry 7195 52345 (some 57)) = true ∧
    (absentRun .qualified 49).edges.settings.breakRun ≤ min 65535 (49 + 1) ∧
    ¬(absentRun .qualified 48).edges.settings.breakRun ≤ min 65535 (48 + 1) ∧
    (scanning.traverse.state = .traversing ∧ scanning.traverse.runningScan = some 57 ∧
      scanning.traverse.scanDir = .fwd ∧ scanning.traverse.turnPoint = some 142300 ∧
      (142300 : Int) - scanning.position.frame.overtravel < 140301 ∧
      ¬(142300 : Int) - scanning.position.frame.overtravel < 140300 ∧
      scanning.frame.clamp (148000 + scanning.position.frame.overtravel) = 148000 ∧
      scanning.insideInterior (entry 7195 139101 (some 57)) = false) ∧
    (∀ r ∈ [Reception.own 0, .stray 0],
      Settled (receiving r sampled) ∧ (receiving r sampled).headLink.reception = some r ∧
        (receiving r sampled).standardize.cycle = none) ∧
    (let s := receiving (.own 0) (withEdges sampled fun m => { m with absentRun := 3, absentFirst := some 52330, qualification := .qualified })
     ∃ t, exec (.frameReceived (goodFrame false false 0 20000)) s = .next t ∧ t.traverse.state = .traversing ∧
       t.edges.absentRun = 0 ∧ t.alarms.entries[srcHole].count = 1) ∧
    let s := receiving (.own 0) (broken (.running 5))
    ∃ t, exec (.frameReceived (goodFrame false false 0 20000)) s = .next t ∧
      t.traverse.state = s.traverse.state ∧ t.traverse.state.breakPark = true := by
  refine ⟨?_, ?_, ?_, ?_, ?_, ?_, ?_, ?_, ?_, ⟨_, runs (completeFrame (goodFrame false false 0 20000)) _ ?_, ?_⟩,
    ⟨_, runs (completeFrame (goodFrame false false 0 20000)) _ ?_, ?_⟩⟩ <;> decide +kernel

/-- The dwell with every outcome of the period settled. -/
abbrev dwelt (syncs : Nat) : State :=
  withHeadLink (dwelling syncs) fun h => { h with links := Vector.replicate 4 SlotLink.cold }

/-- A frame in reception in the dwell, the history entry of its reading and the latest classification given. -/
def metered (r : Reception) (shutterOpen : Bool) (latest : Presence) : State :=
  let s := receiving r (dwelling 5)
  let e (seq : Word16) : HistEntry := { entry seq 75001 none with shutterOpen := shutterOpen }
  (s.setPosition { s.position with history := [e 7195, e 7197] }).setConversion { s.conversion with latest := latest }

theorem witness_DwellSyncCounted :
    (∀ n ∈ [498, 499],
      Settled (dwelt n) ∧ (dwelt n).headLink.period ≠ none ∧ (dwelt n).point.dwell = .opened (openPoint n) ∧
      (∀ k : Fin 4, (dwelt n).headLink.slots[k].enabled = true → (dwelt n).headLink.links[k].unsettled = false) ∧
      (n = 498 → (openPoint n).syncs + 1 < (openPoint n).blockLength) ∧
      (n = 499 → (openPoint n).blockLength ≤ (openPoint n).syncs + 1) ∧
      (openPoint n).channels.getLsbD 1 = true) ∧
    (let good := goodFrame false false 0 20000
     crc5 (good.extractLsb' 5 20) = good.extractLsb' 0 5 ∧ good.extractLsb' 21 2 = 0 ∧
       (good.extractLsb' 5 16).toNat = 20000 ∧ (goodFrame false false 1 20000).extractLsb' 21 2 ≠ 0) ∧
    (∀ r ∈ [Reception.own 0, .own 1, .stray 1], ∀ shutterOpen ∈ [true, false],
      ∀ latest ∈ [Presence.present, .absent],
      let s := metered r shutterOpen latest
      Settled s ∧ s.point.dwell = .opened (openPoint 5) ∧ s.headLink.reception = some r ∧
        (∀ k ∈ [(0 : Fin 4), 1], s.endsCollection k 20000 = false ∧
          s.standardize.records[k].accepted = some accepted ∧ s.conversion.curves[k] = some curve ∧
          (s.attributed k (s.headLink.nextSeq - 1)).map HistEntry.shutterOpen = some shutterOpen) ∧
        s.conversion.latest = latest ∧ s.standardize.records[(2 : Fin 4)].accepted = none) ∧
    ∀ r ∈ [Reception.own 0, .own 1],
      ∃ t, exec (.frameReceived (goodFrame false false 0 20000)) (metered r true .present) = .next t ∧
        t.traverse.state = .dwelling := by
  refine ⟨by decide +kernel, by decide +kernel, by decide +kernel, ?_⟩
  intro r h
  refine ⟨_, runs (completeFrame (goodFrame false false 0 20000)) _ ?_, ?_⟩
  all_goals revert r; decide +kernel

/-- Slot 1 DONE with a dark and a reference mean, the slot's accepted reference 52,412 (Table 5-4). -/
abbrev evaluating (dark ref : Nat) (dest : CycleDest) : State :=
  let x : Collection := { state := .done, darkSum := 200 * dark, darkCount := 200, refSum := 500 * ref, refCount := 500 }
  withTraverse
    (cycling (cycleOfTwo .ref x (collection .ref 200 499)))
    fun t => { t with state := .standardizing dest, turnPoint := if dest = .ret then some 142300 else none }

/-- A watch of slot 1 that its housekeeping trips. -/
abbrev watching (s : State) : State :=
  withHeadLink s fun h =>
    { h with
      housekeeping := [(16, some ⟨3, 5⟩)]
      watches := h.watches.set 2 { enabled := true, slot := 1, item := 0, low := 10, high := 20 } }

theorem witness_CycleTimersAdvance :
    (Settled parked ∧ parked.standardize.cycle = none) ∧
    (∀ phase ∈ [CyclePhase.darkSettle, .refSettle],
      let c := cycleIn phase (collection .dark 0 0)
      Settled (cycling c) ∧ (cycling c).standardize.cycle = some c ∧ c.phaseTimer ≠ none ∧ c.phase = phase) ∧
    (let c := cycleIn .dark (collection .dark 0 0)
     (cycling c).standardize.cycle = some c ∧ c.phaseTimer = none) ∧
    (let c := cycleOfTwo .ref (collection .ref 200 499) (collection .done 200 500)
     Settled (cycling c) ∧ (cycling c).standardize.cycle = some c ∧ c.timeoutTimer ≠ none ∧ c.slots[3] = none ∧
       c.slots[1] = some (collection .ref 200 499) ∧ (collection .ref 200 499).state ≠ .done ∧
       c.slots[2] = some (collection .done 200 500) ∧
       (cycling c).traverse.state = .standardizing .park) ∧
    (let c := { cycleIn .evaluate (collection .done 200 500) with timeoutTimer := none }
     (cycling c).standardize.cycle = some c ∧ c.timeoutTimer = none) ∧
    (∀ dest ∈ [CycleDest.park, .turnLow, .ret],
      let s := evaluating 412 52400 dest
      Settled s ∧ s.traverse.state = .standardizing dest ∧
        (∀ i ∈ [srcStdRejected, srcStdExpired], s.alarms.sets[i].park = false ∧ s.alarms.sets[i].halt = false)) ∧
    ∀ x ∈ [(412, 52400, StdResult.accepted), (412, 1411, .span), (412, 49791, .drift), (412, 49792, .accepted)],
      let s := evaluating x.1 x.2.1 .park
      (cycleTimeout s.nextEvent).standardize.records[(1 : Fin 4)].lastResult = x.2.2 ∧
        s.headLink.slotTripped 1 = false ∧ (watching s).headLink.slotTripped 1 = true := by
  refine ⟨?_, ?_, ?_, ?_, ?_, ?_, ?_⟩ <;> decide +kernel

/-- Scan 57 at an uptime, with a set of expired slots. -/
abbrev aged (uptime : Nat) (expired : Byte) : State :=
  let s := withLink scanning fun l => { l with uptime := BitVec.ofNat 32 uptime }
  s.setStandardize { s.standardize with expiredSlots := expired }

theorem witness_UptimeSecondCounts :
    (Settled parked ∧ parked.traverse.state.measuring = false) ∧
    (∀ a ∈ [AlarmState.clear, .latched],
      let s := withAlarm (aged 14400 0) srcStdExpired a
      Settled s ∧ s.traverse.state = .traversing ∧ s.profile.context.isSome = true ∧
        s.standardize.expiredSlots = 0 ∧ (countSecond s.nextEvent).standardize.expiredSlots ≠ 0 ∧
        s.alarms.entries[srcStdExpired].state = a ∧ s.alarms.sets[srcStdExpired].park = false ∧
        s.alarms.sets[srcStdExpired].halt = false) ∧
    (let s := aged 14400 0
     let s := s.setAlarms { s.alarms with sets := s.alarms.sets.set srcStdExpired ⟨true, true, false, false⟩ }
     Settled s ∧ s.traverse.state = .traversing ∧ s.profile.context.isSome = true ∧
       s.standardize.expiredSlots = 0 ∧ (countSecond s.nextEvent).standardize.expiredSlots ≠ 0 ∧
       s.alarms.entries[srcStdExpired].state = .clear ∧ s.alarms.sets[srcStdExpired].park = true) ∧
    (∀ x ∈ [(14399, 3, 0), (14400, 1, 3), (14400, 3, 3)], ∀ a ∈ [AlarmState.active, .activeAcked],
      let s := aged x.1 x.2.1
      let s := setEntry srcStdExpired
        { AlarmEntry.cold with
          state := a, count := 1
          episode := some
            { firstUptime := 0, firstScan := none, lastUptime := 0, detail := some (.set x.2.1), drill := false } } s
      Settled s ∧ s.traverse.state.measuring = true ∧ s.standardize.expiredSlots = x.2.1 ∧ x.2.1 ≠ 0 ∧
        (countSecond s.nextEvent).standardize.expiredSlots = x.2.2 ∧ s.alarms.entries[srcStdExpired].state = a ∧
        s.alarms.entries[srcStdExpired].episode ≠ none) := by
  refine ⟨?_, ?_, ?_, ?_⟩ <;> decide +kernel

theorem witness_BreakLineDebounced :
    (Settled parked ∧ false = parked.edges.breakIn ∧ true ≠ parked.edges.breakIn ∧ parked.edges.debounce = none) ∧
    (let s := withEdges scanning fun m => { m with breakIn := true, debounce := some 200 }
     Settled s ∧ s.edges.debounce ≠ none ∧ s.edges.breakIn = true ∧
       s.alarms.entries[srcSheetBreak].state = .clear ∧ s.traverse.state = .traversing ∧
       s.alarms.sets[srcSheetBreak].halt = false ∧ s.alarms.sets[srcSheetBreak].park = true) ∧
    (∀ a ∈ [AlarmState.latched, .active],
      let s := withAlarm (withEdges scanning fun m => { m with breakIn := true, debounce := some 200 }) srcSheetBreak a
      Settled s ∧ s.edges.debounce ≠ none ∧ s.edges.breakIn = true ∧
        s.alarms.entries[srcSheetBreak].state = a ∧ a ≠ .clear) ∧
    let s := withAlarm (withEdges (broken .wait) fun m => { m with accepted := true, debounce := some 200 })
      srcSheetBreak .active
    Settled s ∧ s.edges.debounce ≠ none ∧ s.edges.breakIn = false := by decide +kernel

/-- A resume step that waits for its hold-off, with so many attempts made. -/
abbrev resuming (attempts : Nat) : State :=
  withTraverse (broken (.running 1)) fun t => { t with resumeAttempts := attempts }

theorem witness_HoldoffResumes :
    (Settled (broken .wait) ∧ ∀ n, (broken .wait).edges.holdoff ≠ .running n) ∧
    (let s := withEdges parked fun m => { m with holdoff := .running 1 }
     Settled s ∧ s.edges.holdoff = .running 1 ∧ s.traverse.state.breakPark = false) ∧
    (let s := withEdges (moving (.toPark .brk) .run 100 0) fun m => { m with holdoff := .running 1 }
     Settled s ∧ s.edges.holdoff = .running 1 ∧ s.traverse.state = .positioning ⟨.toPark .brk, 50100, .run⟩) ∧
    (∀ attempts ∈ [2, 3],
      Settled (resuming attempts) ∧ (resuming attempts).edges.holdoff = .running 1 ∧
        (resuming attempts).traverse.state = .parked .brk ∧
        (resuming attempts).edges.settings.autoresume = true ∧
        ((resuming attempts).edges.settings.resumeLimit ≤ (resuming attempts).traverse.resumeAttempts ↔
          attempts = 3)) ∧
    (let s := withAlarm (resuming 2) srcSheetBreak .latched
     s.ready = true ∧
       ∀ i : Fin 16, s.blocks i = true →
         (i = srcSheetBreak ∨ i = srcSheetLost) ∧ s.alarms.entries[i].state = .latched) ∧
    (let s := (resuming 2).setBoxes BoxAccumulator.cold
     Settled s ∧ s.edges.holdoff = .running 1 ∧ s.traverse.state = .parked .brk ∧ s.ready = false) ∧
    (let s := withAlarm (withAlarm (resuming 2) srcSheetBreak .latched) srcLimit .latched
     Settled s ∧ s.ready = true ∧ s.blocks srcLimit = true ∧ srcLimit ≠ srcLineCheck) ∧
    let s := withAlarm (resuming 2) srcLineCheck .activeAcked
    let u := s.setAlarms { s.alarms with sets := s.alarms.sets.set srcLineCheck ⟨true, true, false, false⟩ }
    Settled u ∧ u.ready = true ∧ u.blocks srcLineCheck = true ∧
      u.alarms.entries[srcLineCheck].state = .activeAcked ∧ ∀ i : Fin 16, u.blocks i = true → i = srcLineCheck := by
  refine ⟨⟨rfl, ?_⟩, ?_⟩
  · intro n h
    cases h
  · decide +kernel

theorem witness_AlarmLineChecked :
    (Settled parked ∧ false = parked.alarms.alarmSense ∧ true ≠ parked.alarms.alarmSense ∧
      parked.alarms.lineCheck = none ∧ parked.alarms.readback = none) ∧
    (let s := limited.setAlarms { limited.alarms with alarmSense := false, lineCheck := some (true, false) }
     Settled s ∧ true ≠ s.alarms.alarmSense ∧ s.alarms.lineCheck = some (true, false) ∧
       true = s.alarms.alarmOut) ∧
    let s := limited.setAlarms { limited.alarms with alarmSense := false, readback := some 50 }
    Settled s ∧ s.alarms.readback ≠ none ∧ AlarmLaw s ∧ s.alarms.sets[srcLineCheck].line = false ∧
      s.alarms.entries[srcLineCheck].state = .clear := by
  refine ⟨by decide +kernel, by decide +kernel, by decide +kernel, by decide +kernel, ?_, by decide +kernel⟩
  unfold AlarmLaw
  decide +kernel

/-- The assembler in a state, with requests in the queue. -/
abbrev assembler (rx : RxState) (n : Nat) : State := withLink (queued n parked) fun l => { l with rx := rx }

/-- A STATUS request as it is received, its last byte still to come. -/
abbrev almostStatus : List Byte := (Message.content statusRequest ++ leBytes 2 (crc16 statusRequest.content).toNat).dropLast

/-- The last byte of that frame. -/
abbrev lastByte : Byte := ((leBytes 2 (crc16 statusRequest.content).toNat).getLast?).getD 0

/-- A RESTART of length 0. -/
abbrev restartRequest : Message := { kind := 0x03, tag := 9, body := [] }

theorem witness_ReceivedByteAssembled :
    (Settled parked ∧ parked.link.rx = .hunt ∧ (0x55 : Byte) ≠ 0xF0) ∧
    (Settled (assembler (.content [1, 2]) 0) ∧ (assembler (.content [1, 2]) 0).link.rx ≠ .hunt ∧
      (assembler (.content [1, 2]) 0).link.rx ≠ .content []) ∧
    (assembler (.content []) 0).link.rx = .content [] ∧
    (assembler (.escape [1, 2]) 0).link.rx = .escape [1, 2] ∧
    (∀ b ∈ [(0xD0 : Byte), 0x04], b ≠ 0xF0 ∧ b ≠ 0xF1) ∧
    ([1, 2] ++ [(3 : Byte)]).length < 4 ∧
    (([1, 2, 1] ++ [(4 : Byte)]).length = 4 ∧ 1024 < 1 + 256 * (4 : Byte).toNat) ∧
    (([1, 2, 0] ++ [(4 : Byte)]).length = 4 ∧ 0 + 256 * (4 : Byte).toNat ≤ 1024) ∧
    (4 < ([2, 1, 0, 0] ++ [(0 : Byte)]).length ∧ ([2, 1, 0, 0] ++ [(0 : Byte)]).length ≠ 0 + 6) ∧
    (([2, 1, 0, 0, 0] ++ [(0 : Byte)]).length = 0 + 6 ∧ (crc16 [2, 1, 0, 0]).toNat ≠ 0) ∧
    (∀ m ∈ [statusRequest, restartRequest],
      let content := m.content ++ leBytes 2 (crc16 m.content).toNat
      4 < content.length ∧ content.length = 0 + 6 ∧ m.content = content.take 4 ∧
        (crc16 (content.take 4)).toNat = (content.getD 4 0).toNat + 256 * (content.getD 5 0).toNat) ∧
    (assembler (.content almostStatus) 3).link.queue.length < 4 ∧
    4 ≤ (assembler (.content almostStatus) 4).link.queue.length ∧
    (assembler (.content almostStatus) 4).link.refusal = none ∧
    (withLink (assembler (.content almostStatus) 4) fun l => { l with refusal := some waiting }).link.refusal ≠ none ∧
    lastByte ≠ 0xF0 ∧ lastByte ≠ 0xF1 := by
  refine ⟨?_, ?_, ?_, ?_, ?_, ?_, ?_, ?_, ?_, ?_, ?_, ?_, ?_, ?_, ?_, ?_⟩ <;> decide +kernel

/-- An ALARM notice that joined in an event. -/
abbrev alarmNotice (joined : Nat) : QueuedNotice := { key := .alarm 1, body := [], joined := joined }

/-- A SCAN notice. -/
abbrev scanNotice : QueuedNotice := { key := .scan, body := [], joined := 1 }

/-- The link with a reply that became ready in event 4, and notices. -/
abbrev answering (notices : List QueuedNotice) : State :=
  withLink parked fun l => { l with slot := some waiting, notices := notices }

/-- A notice of an alarm that joined no later than the reply became ready (R188). -/
abbrev before (s : State) (n : QueuedNotice) : Bool :=
  (match n.key with
   | .alarm _ => true
   | _ => false) && s.link.slot.all fun w => n.joined ≤ w.ready

theorem witness_TransmitterChooses :
    (let s := withLink parked fun l =>
       { l with transmitting := some { origin := .reply, message := statusRequest, wire := statusRequest.wire } }
     Settled s ∧ NoticeLaw s ∧ s.link.transmitting ≠ none) ∧
    (let s := answering [scanNotice, alarmNotice 4]
     Settled s ∧ NoticeLaw s ∧ s.link.transmitting = none ∧ s.link.refusal = none ∧ s.link.readout = none ∧
       s.link.notices = [scanNotice] ++ alarmNotice 4 :: [] ∧ before s (alarmNotice 4) = true ∧
       before s scanNotice = false) ∧
    (let s := answering [scanNotice, alarmNotice 5]
     Settled s ∧ NoticeLaw s ∧ s.link.transmitting = none ∧ s.link.refusal = none ∧
       s.link.slot = some waiting ∧ ∀ n ∈ s.link.notices, before s n = false) ∧
    (Settled reading ∧ NoticeLaw reading ∧ reading.link.notices = [] ∧ reading.link.refusal = none ∧
      reading.link.slot = none ∧ reading.link.readout ≠ none) ∧
    (let s := withLink parked fun l => { l with refusal := some waiting }
     Settled s ∧ NoticeLaw s ∧ s.link.notices = [] ∧ s.link.refusal = some waiting) ∧
    (let s := withLink parked fun l => { l with notices := [scanNotice] }
     Settled s ∧ NoticeLaw s ∧ s.link.refusal = none ∧ s.link.slot = none ∧ s.link.readout = none ∧
       s.link.notices = scanNotice :: []) ∧
    (Settled parked ∧ NoticeLaw parked ∧ parked.link.slot = none ∧ parked.link.notices = []) := by
  unfold NoticeLaw
  refine ⟨?_, ?_, ?_, ?_, ?_, ?_, ?_⟩ <;> decide +kernel

theorem witness_ChunksHoldWholeRecords :
    reading.profile.held = some 0 ∧ reading.profile.banks[(0 : Fin 2)] = some (bank 56) ∧
    (bank 56).channels[(0 : Fin 5)] =
      some { thin := true, validBoxes := 0, average := none, age := 0, boxes := [] } := by decide

/-- A frame of an origin being sent. -/
abbrev sending (s : State) (origin : TxOrigin) : State :=
  withLink s fun l => { l with transmitting := some { origin := origin, message := statusRequest, wire := [] } }

/-- A request of a kind and body alone in the queue. -/
abbrev asking (kind : Byte) (body : List Byte) : State :=
  withLink parked fun l => { l with queue := [{ kind := kind, tag := 1, body := body }] }

theorem witness_AnswersLeaveAndRequestsEnter :
    (Settled parked ∧ parked.link.queue = [] ∧ parked.link.transmitting = none) ∧
    (Settled (asking 0x37 []) ∧ (asking 0x37 []).link.queue = [{ kind := 0x37, tag := 1, body := [] }] ∧
      (asking 0x37 []).link.slot = none ∧ (asking 0x37 []).link.readout = none ∧
      (0x37 : Byte).toNat ∉ [0x36, 0x38, 0x39]) ∧
    (requestLength 0x04 [] = some 1 ∧ ([] : List Byte).length ≠ 1 ∧ requestLength 0x23 [0, 2] = some 12 ∧
      ([0, 2] : List Byte).length ≠ 12) ∧
    (∀ origin ∈ [TxOrigin.notice .scan, .refusal, .reply, .chunk true],
      Settled (sending parked origin) ∧
        (sending parked origin).link.transmitting = some { origin := origin, message := statusRequest, wire := [] } ∧
        (sending parked origin).profile.held = none) ∧
    (Settled (sending reading (.chunk false)) ∧ (sending reading (.chunk false)).link.readout ≠ none) ∧
    (Settled (sending reading (.chunk true)) ∧ (sending reading (.chunk true)).profile.held = some 0 ∧
      (sending reading (.chunk true)).profile.waiting = some 1) ∧
    let s := sending (withProfile reading fun p => { p with waiting := none }) (.chunk true)
    Settled s ∧ s.profile.held = some 0 ∧ s.profile.waiting = none := by
  refine ⟨?_, ?_, ?_, ?_, ?_, ?_, ?_⟩ <;> decide +kernel

/-- RESTART in scan 57 with a limit line asserted, and in a cycle. -/
theorem witness_RestartKeepsSettings :
    scanning.traverse.state = .traversing ∧ scanning.profile.context.isSome = true ∧
    parked.traverse.state ≠ .traversing ∧ parked.traverse.limitLo = false ∧ limited.traverse.limitHi = true := by
  decide

theorem witness_ReadingsAnswered :
    Free parked ∧ Free limited ∧ Free (cycling (cycleIn .dark (collection .dark 198 0))) ∧
    10 < (11 : Byte).toNat ∧ (10 : Byte).toNat ≤ 10 := by decide +kernel

theorem witness_ReadoutsBegin :
    (Free parked ∧ parked.profile.published = none ∧ 4 < (5 : Byte).toNat ∧ 1 < (2 : Byte).toNat) ∧
    (Free published ∧ (4 : Byte).toNat = (4 : Fin 5) ∧ (1 : Byte).toNat ≤ 1 ∧
      published.profile.published = some 0 ∧ published.profile.banks[(0 : Fin 2)] = some (bank 56)) ∧
    consecutive [4294967295, 1, 2] :=
  ⟨by decide +kernel, by decide +kernel, by simp [consecutive, nextNumber]⟩

/-- A state with an unacknowledged break, which blocks by default. -/
abbrev blockedBy (s : State) : State := withAlarm s srcSheetBreak .active

/-- Without a frame configured. -/
abbrev unframed (s : State) : State := s.setPosition { s.position with configured := false }

theorem witness_HomeJudged :
    (Free scanning ∧ scanning.traverse.state = .traversing) ∧
    (Free (unframed parked) ∧ (unframed parked).traverse.state = .parked .host ∧
      (unframed parked).position.configured = false) ∧
    (Free (blockedBy parked) ∧ (blockedBy parked).position.configured = true ∧ (blockedBy parked).blocked = true) ∧
    (Free parked ∧ parked.traverse.state = .parked .host ∧ parked.position.configured = true ∧
      parked.blocked = false) := by decide +kernel

/-- Ready and not blocked, on a free link. -/
abbrev able (s : State) : Prop := Free s ∧ s.ready = true ∧ s.blocked = false

/-- A move in the carriage's hands, held by a claim. -/
abbrev heldMove (purpose : Purpose) (c : Claim) : State :=
  withTraverse (moving purpose .run 100 500) fun t => { t with holder := some c }

theorem witness_StartJudged :
    (Free (unframed parked) ∧ (unframed parked).ready = false) ∧
    (Free (blockedBy parked) ∧ (blockedBy parked).ready = true ∧ (blockedBy parked).blocked = true) ∧
    (able (heldMove (.toPark .brk) .park) ∧
      (heldMove (.toPark .brk) .park).traverse.state = .positioning (moveOf (.toPark .brk) .run 100) ∧
      (heldMove (.toPark .brk) .park).traverse.holder = some .park) ∧
    (able scanning ∧ scanning.traverse.state = .traversing) ∧
    (able (heldMove (.toTurn .fwd false) .scanProgram) ∧
      (heldMove (.toTurn .fwd false) .scanProgram).traverse.holder ≠ some .park) ∧
    (let s := cycling (cycleIn .dark (collection .dark 0 0))
     able s ∧ s.traverse.state = .standardizing .park) ∧
    (able (heldMove (.toStd .park) .host) ∧
      (heldMove (.toStd .park) .host).traverse.state = .positioning (moveOf (.toStd .park) .run 100) ∧
      (heldMove (.toStd .park) .host).traverse.holder ≠ some .park) ∧
    (able (broken .idle) ∧ (broken .idle).traverse.state = .parked .brk ∧
      (broken .idle).lacksStandardize = false) ∧
    (let s := parked.setStandardize { parked.standardize with records := Vector.replicate 4 StdRecord.cold }
     able s ∧ s.traverse.state = .parked .host ∧ s.lacksStandardize = true) ∧
    (able (dwelling 5) ∧ (dwelling 5).traverse.state = .dwelling) := by
  refine ⟨?_, ?_, ?_, ?_, ?_, ?_, ?_, ?_, ?_, ?_⟩ <;> decide +kernel

/-- HALTED with cause REACTION, with or without a reference. -/
abbrev haltedWith (r : RefState) : State :=
  let s := inState parked (.halted .reaction) (some .halt)
  s.setPosition { s.position with reference := r }

theorem witness_StopJudged :
    (Free State.reset ∧ State.reset.traverse.state = .unreferenced) ∧
    (Free (heldMove (.toPark .brk) .park) ∧
      (heldMove (.toPark .brk) .park).traverse.state = .positioning (moveOf (.toPark .brk) .run 100) ∧
      (heldMove (.toPark .brk) .park).traverse.holder = some .park) ∧
    (Free (homing .seek) ∧ (homing .seek).traverse.state = .homing .seek) ∧
    (Free limited ∧ limited.traverse.state = .halted .limit ∧ limited.blocked = true) ∧
    (∀ r ∈ [RefState.referenced, .lost], Free (haltedWith r) ∧
      (haltedWith r).traverse.state = .halted .reaction ∧ (haltedWith r).blocked = false ∧
      (haltedWith r).position.reference = r) ∧
    (Free (heldMove (.toPark .config) .scanProgram) ∧
      (heldMove (.toPark .config) .scanProgram).traverse.state = .positioning ⟨.toPark .config, 50100, .run⟩ ∧
      (heldMove (.toPark .config) .scanProgram).traverse.holder ≠ some .park) ∧
    (Free (heldMove (.toPoint 500) .host) ∧
      (heldMove (.toPoint 500) .host).traverse.state = .positioning (moveOf (.toPoint 500) .run 100)) ∧
    (Free (cycling (cycleIn .dark (collection .dark 0 0))) ∧ Free scanning ∧ Free reversing ∧ Free (dwelling 5)) := by
  refine ⟨?_, ?_, ?_, ?_, ?_, ?_, ?_, ?_⟩ <;> decide +kernel

/-- What R159 asks of the operands of POINT. -/
abbrev pointValid (s : State) (position : Word32) (len : Word16) : Prop :=
  (s.position.frame.travelMin : Int) ≤ position.toInt ∧ position.toInt ≤ s.position.frame.travelMax ∧
    1 ≤ len.toNat ∧ len.toNat ≤ 1000

theorem witness_PointJudged :
    (Free parked ∧ ¬pointValid parked 1999 1 ∧ ¬pointValid parked 148001 1 ∧ ¬pointValid parked 75000 0 ∧
      ¬pointValid parked 75000 1001 ∧ pointValid parked 2000 1 ∧ pointValid parked 148000 1000) ∧
    (Free (unframed parked) ∧ pointValid (unframed parked) 75000 500 ∧ (unframed parked).ready = false) ∧
    (Free (blockedBy parked) ∧ pointValid (blockedBy parked) 75000 500 ∧ (blockedBy parked).ready = true ∧
      (blockedBy parked).blocked = true) ∧
    (able (heldMove (.toPark .brk) .park) ∧ (heldMove (.toPark .brk) .park).traverse.holder = some .park) ∧
    (able (dwelling 5) ∧ (dwelling 5).traverse.state = .dwelling ∧
      (dwelling 5).point.dwell = .opened (openPoint 5) ∧ (openPoint 5).target = (75000 : Word32).toInt ∧
      (500 : Word16).toNat = (openPoint 5).blockLength ∧ (200 : Word16).toNat ≠ (openPoint 5).blockLength ∧
      (openPoint 5).target ≠ (75001 : Word32).toInt) ∧
    (able parked ∧ able scanning ∧ able reversing ∧ able (cycling (cycleIn .dark (collection .dark 0 0))) ∧
      able (heldMove (.toPoint 500) .host)) := by
  refine ⟨?_, ?_, ?_, ?_, ?_, ?_⟩ <;> decide +kernel

theorem witness_StandardizeJudged :
    (Free parked ∧ 1 < (2 : Byte).toNat ∧ (0 : Byte).toNat = false.toNat ∧ (1 : Byte).toNat = true.toNat) ∧
    (Free State.reset ∧ State.reset.traverse.state = .unreferenced) ∧
    (parked.traverse.state = .parked .host ∧ parked.anyCurve = true) ∧
    (let s := parked.setConversion Conversion.cold
     Free s ∧ s.traverse.state = .parked .host ∧ s.anyCurve = false) ∧
    (Free scanning ∧ scanning.traverse.state = .traversing) ∧
    (Free (heldMove (.toStd .ret) .scheduledStd) ∧
      (heldMove (.toStd .ret) .scheduledStd).traverse.state = .positioning ⟨.toStd .ret, 50100, .run⟩) ∧
    (let s := cycling (cycleIn .dark (collection .dark 0 0))
     Free s ∧ s.traverse.state = .standardizing .park) := by
  refine ⟨?_, ?_, ?_, ?_, ?_, ?_, ?_⟩ <;> decide +kernel

theorem witness_SettingsTakenAtOnce :
    Free parked ∧ 16 ≤ (16 : Byte).toNat ∧ (15 : Byte).toNat < 16 ∧
    StdBody.check { StdSettings.cold.body with stdTimeout := 1 } = none ∧
    StdBody.check StdSettings.cold.body = some StdSettings.cold ∧
    FilterBody.check (filterBody ProfileUnit.cold.settings 0) ≠ none ∧
    FilterBody.check { filterBody ProfileUnit.cold.settings 0 with ch4 := ⟨3, 2, 0, 3⟩ } = none ∧
    SheetBody.check (SheetSettings.cold.body 31000 32000) = some (31000, 32000, SheetSettings.cold) ∧
    SheetBody.check (SheetSettings.cold.body 32000 32000) = none := by decide +kernel

theorem witness_SettingsStagedOrApplied :
    (Free parked ∧ parked.traverse.state.staging = false) ∧ (Free scanning ∧ scanning.traverse.state.staging = true) ∧
    (curveBody 0 (some curve)).points.length ≤ maxCurvePoints ∧
    CurveBody.check (curveBody 0 (some curve)) = some (0, curve) ∧ CurveBody.check ⟨4, []⟩ = none ∧
    LayoutBody.check layout.body = some layout ∧ LayoutBody.check { layout.body with boxes := 769 } = none ∧
    ZoneBody.check (Zone.cold.body 2) = some (2, Zone.cold) ∧
    ZoneBody.check { Zone.cold.body 2 with slots := 16 } = none := by decide +kernel

theorem witness_LinkAndFrameSettings :
    (Free scanning ∧ scanning.traverse.state.settable = false) ∧
    (Free parked ∧ parked.traverse.state.settable = true ∧ parked.position.reference ≠ .unknown) ∧
    FrameBody.check frame.body = some frame ∧ FrameBody.check { frame.body with creepSpeed := 9 } = none ∧
    FrameBody.check { frame.body with encDir := 1 } ≠ none ∧
    (readPeriod 1000 = some (some 1000) ∧ parked.windowsFit (some 1000) = true ∧
      parked.headLink.period = some 1000) ∧
    (readPeriod 300 = some (some 300) ∧ parked.windowsFit (some 300) = true ∧
      some 300 ≠ parked.headLink.period) ∧
    (readPeriod 250 = some (some 250) ∧ parked.windowsFit (some 250) = false) ∧
    (readPeriod 1025 = none ∧ readPeriod 4050 = none) ∧
    (SlotBody.check ((slotAt .water 300 5).body 1) = some (1, slotAt .water 300 5) ∧
      parked.slotFits 1 (slotAt .water 300 5) = true ∧ parked.slotFits 1 (slotAt .water 159 5) = false) ∧
    WatchBody.check (Watch.cold.body 7) = some (7, Watch.cold) ∧
    WatchBody.check { Watch.cold.body 7 with high := 0, low := 1 } = none := by
  refine ⟨?_, ?_, ?_, ?_, ?_, ?_, ?_, ?_, ?_, ?_, ?_, ?_⟩ <;> decide +kernel

/-- What R171 forbids of a set, for a source (Table 10-1). -/
abbrev mayNot (i : Fin 16) (r : Byte) : Prop :=
  (i ∈ [srcDriveFault, srcStall, srcLimit, srcEncoder, srcMoveTimeout] ∧ r.getLsbD 2 = false) ∨
    (i = srcLineCheck ∧ r.getLsbD 3 = true)

theorem witness_AlarmRequestsTaken :
    (Free limited ∧ 16 ≤ (16 : Byte).toNat ∧ (16 : Byte) ≠ 255 ∧ (10 : Byte).toNat = srcLimit) ∧
    (mayNot srcLimit 0 ∧ mayNot srcLineCheck 8 ∧ ¬mayNot srcLimit 4 ∧ ¬mayNot srcLineCheck 7 ∧
      (4 : Byte).toNat < 16) ∧
    (srcLimit ≠ srcLineCheck ∧ limited.alarms.entries[srcLineCheck].lineMark = false ∧ AlarmLaw limited) :=
  ⟨by decide +kernel, by decide +kernel, by decide +kernel, by decide +kernel, witness_AlarmLawKept.1⟩

end Sys2Proof.Tests
end

section
/-! PROOFS. The sampled pair of the encoder (R1, R2): what each of its three outcomes does to the state, and the
statement about ENCODER_TRANSITION. -/

namespace Sys2Proof.Machine

variable {s : State} {a b : Bool}

/-- The "up" column of Table 1-5 is a quarter turn: the new A is the old B inverted, the new B the old A. -/
theorem stepsUp_iff : ∀ a b a' b' : Bool, stepsUp a b a' b' = true ↔ a' = !b ∧ b' = a := by decide

theorem countStep_stepsUp (sense : EncSense) (a b a' b' : Bool) (c : Word32) :
    countStep sense (stepsUp a b a' b') c =
      if (a' = !b ∧ b' = a) ↔ sense = .normal then c + 1 else c - 1 := by
  simp only [countStep, stepsUp_iff, eq_iff_iff]

/-- An unchanged pair is no transition. -/
theorem takePair_of_same (ha : a = s.position.encA) (hb : b = s.position.encB) : takePair a b s = s :=
  if_pos ⟨ha, hb⟩

/-- A pair with both lines changed is the illegal transition (R2). -/
theorem takePair_of_both_changed (ha : a ≠ s.position.encA) (hb : b ≠ s.position.encB) :
    takePair a b s = takeIllegal s :=
  (if_neg fun same => ha same.1).trans (if_pos ⟨ha, hb⟩)

/-- A pair with one line changed is counted by Table 1-5 and becomes the decoder state (R1). -/
theorem takePair_of_one_changed (h : ¬(a = s.position.encA ↔ b = s.position.encB)) :
    takePair a b s =
      s.setPosition
        { s.position with
          encA := a, encB := b
          counter := countStep s.position.frame.encDir (stepsUp s.position.encA s.position.encB a b)
            s.position.counter } :=
  have not_same : ¬(a = s.position.encA ∧ b = s.position.encB) := fun ⟨ha, hb⟩ => h (iff_of_true ha hb)
  have not_both : ¬(a ≠ s.position.encA ∧ b ≠ s.position.encB) := fun ⟨ha, hb⟩ => h (iff_of_false ha hb)
  (if_neg not_same).trans (if_neg not_both)

theorem exec_encoderTransition (a b : Bool) (s : State) :
    exec (.encoderTransition a b) s = event (takePair a b) s := rfl

theorem exec_illegalTransition (s : State) : exec .illegalTransition s = event takeIllegal s := rfl

/-- Events whose work agrees on the numbered state are the same event. -/
theorem event_congr {f g : State → State} (h : f s.nextEvent = g s.nextEvent) : event f s = event g s := by
  rw [event, event, afterEvent, afterEvent, h]

/-- An event whose work leaves a state without claims is over with that state. -/
theorem event_eq_next {f : State → State} {t : State} (h : f s.nextEvent = t) (ht : t.settled) :
    event f s = .next t := by
  subst h
  exact event_of_settled f s ht

/-- Settles O15: one lemma on `takePair` for each of the outcomes of a sampled pair. -/
theorem encoderTransitionCounts : Obligations.EncoderTransitionCounts := by
  intro a b s hs
  rw [exec_encoderTransition, exec_illegalTransition]
  refine ⟨?same, ?counted, ?illegal⟩
  case same =>
    rintro ⟨ha, hb⟩
    exact event_eq_next (takePair_of_same ha hb) hs
  case counted =>
    intro h
    rw [← countStep_stepsUp]
    exact event_eq_next (takePair_of_one_changed h) hs
  case illegal =>
    rintro ⟨ha, hb⟩
    exact event_congr (takePair_of_both_changed ha hb)

end Sys2Proof.Machine
end

section
/-! PROOFS. The calibration curve (R69): a breakpoint that q has reached makes the ones before it irrelevant, and
between two neighbours the interpolation meets both of them. -/

namespace Sys2Proof.Machine

theorem roundNat_mul_left {b : Nat} (hb : 0 < b) (a : Nat) : roundNat (b * a) b = a := by
  have h2b : 0 < 2 * b := by omega
  rw [roundNat, ← Nat.mul_assoc, Nat.mul_add_div h2b, Nat.div_eq_of_lt (by omega), Nat.add_zero]

/-- An exact quotient is left as it is by the rounding. -/
theorem roundInt_mul_left {b : Nat} (hb : 0 < b) (a : Int) : roundInt (b * a) b = a := by
  have hmul : (b : Int) * a < 0 ↔ a < 0 :=
    lt_iff_lt_of_le_iff_le (mul_nonneg_iff_of_pos_left (Int.natCast_pos.mpr hb))
  simp only [roundInt, hmul, Int.natAbs_mul, Int.natAbs_natCast, roundNat_mul_left hb]
  split <;> omega

theorem interpolate_left (x0 : Nat) (y0 : Int) (x1 : Nat) (y1 : Int) : interpolate x0 y0 x1 y1 x0 = y0 := by
  rcases Nat.eq_zero_or_pos (x1 - x0) with hw | hw
  · simp [interpolate, hw, roundInt, roundNat]
  · simpa [interpolate] using roundInt_mul_left hw 0

theorem interpolate_right {x0 x1 : Nat} (h : x0 < x1) (y0 y1 : Int) : interpolate x0 y0 x1 y1 x1 = y1 := by
  rw [interpolate, roundInt_mul_left (Nat.sub_pos_of_lt h), add_sub_cancel]

/-- "x strictly increasing" (R69) of every pair of breakpoints, not of neighbours only. -/
theorem risingX_iff_pairwise (c : Curve) : risingX c = true ↔ c.Pairwise (·.1 < ·.1) := by
  induction c with
  | nil => simp [risingX]
  | cons p tail ih =>
    cases tail with
    | nil => simp [risingX]
    | cons p' rest =>
      rw [risingX, Bool.and_eq_true, decide_eq_true_iff, ih, List.pairwise_cons (a := p)]
      refine and_congr_left fun htail => ⟨fun hp => ?_, fun hp => hp p' List.mem_cons_self⟩
      exact List.forall_mem_cons.mpr ⟨hp, fun _ hb => hp.trans (List.rel_of_pairwise_cons htail hb)⟩

variable {x x0 x1 q : Nat} {y y0 y1 : Int} {rest : Curve}

theorem curveValue_of_le_head (h : q ≤ x) : curveValue ((x, y) :: rest) q = y := by
  cases rest with
  | nil => rfl
  | cons p rest => exact if_pos h

theorem curveValue_of_second_le (hx : x0 < x1) (h : x1 ≤ q) :
    curveValue ((x0, y0) :: (x1, y1) :: rest) q = curveValue ((x1, y1) :: rest) q :=
  (if_neg (by omega)).trans (if_neg (by omega))

/-- The first interval, both its ends included (R69): the breakpoint that closes it has the value it opens the next
one with. -/
theorem curveValue_first_interval (hx : x0 < x1) (h0 : x0 ≤ q) (h1 : q ≤ x1) :
    curveValue ((x0, y0) :: (x1, y1) :: rest) q = interpolate x0 y0 x1 y1 q := by
  rcases h0.eq_or_lt with rfl | hq0
  · rw [curveValue_of_le_head le_rfl, interpolate_left]
  rcases h1.eq_or_lt with rfl | hq1
  · rw [curveValue_of_second_le hx le_rfl, curveValue_of_le_head le_rfl, interpolate_right hx]
  · exact (if_neg (by omega)).trans (if_pos hq1)

/-- Once q has reached a breakpoint, the breakpoints before it have no part in the value. -/
theorem curveValue_append {front : Curve} (hc : (front ++ (x, y) :: rest).Pairwise (·.1 < ·.1)) (hq : x ≤ q) :
    curveValue (front ++ (x, y) :: rest) q = curveValue ((x, y) :: rest) q := by
  induction front with
  | nil => rfl
  | cons p front ih =>
    obtain ⟨hp, htail⟩ := List.pairwise_cons.mp hc
    rw [← ih htail]
    cases front with
    | nil => exact curveValue_of_second_le (hp (x, y) List.mem_cons_self) hq
    | cons p' front =>
      have hp' : p'.1 < x := List.rel_of_pairwise_cons htail (List.mem_append_right front List.mem_cons_self)
      exact curveValue_of_second_le (hp p' List.mem_cons_self) (by omega)

/-- Settles O31: each clause is about the curve from one breakpoint on, by `curveValue_append`. -/
theorem curveInterpolates : Obligations.CurveInterpolates := by
  intro curve q hrising
  rw [risingX_iff_pairwise] at hrising
  refine ⟨?below, ?above, ?between, ?through⟩
  case below =>
    rintro x y rest rfl hq
    exact curveValue_of_le_head hq
  case above =>
    rintro x y front rfl hq
    exact curveValue_append hrising hq
  case between =>
    rintro x0 y0 x1 y1 front back rfl h0 h1
    obtain ⟨-, hback, -⟩ := List.pairwise_append.mp hrising
    have hx : x0 < x1 := List.rel_of_pairwise_cons hback List.mem_cons_self
    rw [curveValue_append hrising h0]
    exact curveValue_first_interval hx h0 h1
  case through =>
    intro x y hmem
    obtain ⟨front, rest, rfl⟩ := List.append_of_mem hmem
    rw [curveValue_append hrising le_rfl, curveValue_of_le_head le_rfl]

end Sys2Proof.Machine
end
